-- ==== Sys2Proof/Word.lean ====
section
/-! DEFINITION. The value domains of 00_scope.md rules R9 and R10, and the register file (a fixed number of
like registers read and written by index) that 10_state.md uses. -/

namespace Sys2Proof

/-- The logic level of a digital line (R10): `false` is 0, low; `true` is 1, high (R92: "true for high"). -/
abbrev Level := Bool

/-- One analog sample, 0..65535 (R10). U4 of 93_implementation_defined.md: 16 unsigned bits, so no other answer
of the converter can be expressed. -/
abbrev Raw := BitVec 16

/-- A quantized value, note number, velocity, controller number or controller value, 0..127 (R10). -/
abbrev Q := BitVec 7

/-- A scan word, a segment pattern, an LED mask or one frame's byte (R80, R89, R90, R91). -/
abbrev Byte := BitVec 8

/-- A word of the message port (R86). -/
abbrev SinkWord := BitVec 16

/-- A logic line at 0. A control is pressed exactly when its line reads this (R10). -/
abbrev low : Level := false

/-- A logic line at 1. -/
abbrev high : Level := true

/-- Element `i` of a register file (R11's `X[i]`). The index type is the file's own range, so no access is out of
range (R59). -/
def fileGet {α : Type} {n : Nat} (file : Vector α n) (i : Fin n) : α := file[i.val]

/-- `X[i] <- v` on a register file (R11). -/
def fileSet {α : Type} {n : Nat} (file : Vector α n) (i : Fin n) (v : α) : Vector α n :=
  file.set i.val v i.isLt

end Sys2Proof
end

