-- ==== Sys2Proof/Config.lean ====
section
/-! DEFINITION. What is fixed for the machine: the named constants of 00_scope.md rule R6, the five lookup tables of
R7 (parameters: no source gives their contents), the scan program of 40_sequencer.md rule R110 (R65: "A model holds
the scan program and the tables as configuration, not as state"), and the free values, which have no body. -/

namespace Sys2Proof

namespace Config

/-! ## The named constants of R6

"A model takes them as fields of its configuration with the values below". The counts are the ranges of the index
types that follow them. -/

/-- `N_KEYS`: primary keys, index 0..7. -/
@[simp] abbrev nKeys : Nat := 8
/-- `N_DIN`: digital inputs, 8 keys, the mode button, 2 encoder buttons. -/
@[simp] abbrev nDin : Nat := 11
/-- `N_MODES`: modes 0..6. -/
@[simp] abbrev nModes : Nat := 7
/-- `N_MUX`: multiplexed analog channels, index 0..6. -/
@[simp] abbrev nMux : Nat := 7
/-- `N_DIR`: direct analog channels, index 7..8. -/
@[simp] abbrev nDir : Nat := 2
/-- The analog channels of R55, index 0..8: the multiplexed ones and the direct ones. -/
@[simp] abbrev nChannels : Nat := nMux + nDir

end Config

/-- A key index (R6, `N_KEYS`). -/
abbrev Key := Fin Config.nKeys
/-- A digital input line (R6, `N_DIN`; R54). -/
abbrev Line := Fin Config.nDin
/-- A mode (R6, `N_MODES`). -/
abbrev Mode := Fin Config.nModes
/-- A multiplexed channel (R6, `N_MUX`). -/
abbrev Mux := Fin Config.nMux
/-- A direct channel (R6, `N_DIR`). -/
abbrev Dir := Fin Config.nDir
/-- An analog channel, an entry of `LAST` (R55). -/
abbrev Channel := Fin Config.nChannels

namespace Config

/-- `NOTE_STRIDE`: the note base step per mode. -/
@[simp] abbrev noteStride : Nat := 12
/-- `VEL_ON`: the velocity of `NoteOn`. -/
@[simp] abbrev velOn : Q := 127#7
/-- `VEL_OFF`: the velocity of `NoteOff`. -/
@[simp] abbrev velOff : Q := 0#7
/-- `RAW_MAX`: the largest analog sample, the largest value of `Raw`. -/
@[simp] abbrev rawMax : Nat := 65535
/-- `Q_MAX`: the largest quantized value, the largest value of `Q`. -/
@[simp] abbrev qMax : Nat := 127
/-- `DELTA_MODE`: the mode in which channel 0 feeds the Delta Controller. -/
@[simp] abbrev deltaMode : Mode := 1
/-- `GATE_KEYS`: the keys withheld from note output in mode 1 and used as delta gates (R165). -/
def gateKey : Fin 2 → Key
  | 0 => 0
  | 1 => 3
/-- `DELTA_CC`: the controller numbers of the two delta instances (R165). -/
def deltaCc : Fin 2 → Q
  | 0 => 1#7
  | 1 => 30#7
/-- `DELTA_DIV`: raw counts per delta step. -/
@[simp] abbrev deltaDiv : Int := 512
/-- `ACC_INIT`: the reset value of each accumulator. -/
@[simp] abbrev accInit : Q := 64#7
/-- `MUX_CC(i)`, i in 1..6: the controller number of multiplexed channel i. -/
def muxCc (i : Mux) : Q := BitVec.ofNat 7 (i.val + 1)
/-- `DIR_CC`: the controller numbers of the direct channels. -/
def dirCc : Dir → Q
  | 0 => 8#7
  | 1 => 9#7
/-- `ENC_MODE`: the mode in which the encoder buttons are polled. -/
@[simp] abbrev encMode : Mode := 2
/-- `ENC_CC`: the controller number of the encoder nudges. -/
@[simp] abbrev encCc : Q := 10#7
/-- `ENC_LEFT_VAL` (side 0) and `ENC_RIGHT_VAL` (side 1). -/
def encVal : Fin 2 → Q
  | 0 => 127#7
  | 1 => 1#7
/-- `PULSE_MODES`: the modes in which a key's press edge rewrites the indicator. -/
@[simp] abbrev pulseModes : List Mode := [0, 3, 4]
/-- `PERSIST_MODES`: the modes whose static indicator pattern a key release leaves alone. -/
@[simp] abbrev persistModes : List Mode := [1, 2, 5, 6]
/-- `IDLE_LED`: the LED index of the idle pattern, outside 0..7 (R186). -/
@[simp] abbrev idleLed : Nat := 8
/-- `BLANK_DIGIT`: the digit value that shows nothing. -/
@[simp] abbrev blankDigit : Fin 17 := 16
/-- `T_SETTLE` in milliseconds, a minimum wait (R290); no rule reads it, it only dates the `DELAY` events. -/
@[simp] abbrev settleMs : Nat := 2
/-- `T_LOOP` in milliseconds, a minimum wait; the source's "about 10 ms" (R290). -/
@[simp] abbrev loopMs : Nat := 10

/-! ## The lookup tables of R7 -/

/-- The five tables of R7 with the index and element types R7 gives them. `Tables.wf` (WellFormed.lean) is R7's list
of constraints that the types do not already say. -/
structure Tables where
  /-- `SEG7[d]`: the pattern of digit `d`; entry 16 is the blank pattern. -/
  seg7     : Vector Byte 17
  /-- `DISP[m]`: the left and right digit of mode `m`. -/
  disp     : Vector (Fin 17 × Fin 17) nModes
  /-- `MODE_LEDS[m]`: the static LED set of mode `m`; indices outside 0..7 are legal and set no bit. -/
  modeLeds : Vector (List Nat) nModes
  /-- `KEYLED[k]`: the LED that key `k` lights. -/
  keyLed   : Vector (Fin 8) nKeys
  /-- `CH0_CC[m]`: the controller number of channel 0 in mode `m`; entry 1 is never read. -/
  ch0Cc    : Vector Q nModes
  deriving DecidableEq, Repr

/-- The contents of `SEG7`: in no source (91_not_in_source.md N1), so an unknown of the model. -/
opaque seg7 : Vector Byte 17
/-- The contents of `DISP`: unknown. -/
opaque disp : Vector (Fin 17 × Fin 17) nModes
/-- The contents of `MODE_LEDS`: unknown. -/
opaque modeLeds : Vector (List Nat) nModes
/-- `KEYLED` on keys 1..7: unknown but a bijection, onto LEDs 1..7 since `KEYLED[0] = 0` (R7). Entry `k` here is key
`k + 1`, its value the LED index less one. -/
opaque keyLedTail : Equiv.Perm (Fin 7)
/-- The contents of `CH0_CC`: unknown. -/
opaque ch0Cc : Vector Q nModes

/-- `KEYLED[k]` from the unknown bijection: every bijection of 0..7 that fixes 0 has this form (R7). -/
def keyLed (k : Key) : Fin 8 :=
  Fin.cases 0 (fun j => (keyLedTail j).succ) k

/-- The block's own tables (R7, decision D2: `OPEN` parameters; nothing but R7's constraints can be proved of them). -/
def tables : Tables :=
  { seg7 := seg7, disp := disp, modeLeds := modeLeds, keyLed := Vector.ofFn keyLed, ch0Cc := ch0Cc }

/-! ## The scan program of R110 -/

/-- The 22 scan words in `PC` order (R81, R110). -/
def scanProgram : Vector Byte 22 :=
  #v[0x00, 0x10, 0x11, 0x12, 0x13, 0x14, 0x15, 0x16, 0x17, 0x20, 0x30, 0x31, 0x32, 0x33, 0x34, 0x35, 0x36, 0x40,
     0x41, 0x50, 0x51, 0x60]

/-! ## Free values: the environment's answers (R53, U3) and the external registers at power-on (R35, U15) -/

/-- What the environment answers to the n-th `RDPIN` when State lists no answer for it: any level (R53). -/
opaque freeLevel : Nat → Level
/-- What the environment answers to the n-th `SAMPLE` when State lists no answer for it: any raw value (R53). -/
opaque freeSample : Nat → Raw
/-- What `SINK_FAIL` reads at the n-th `EMIT` when State lists no answer for it: any level (R53, R215). -/
opaque freeFail : Nat → Bool
/-- The shift stages `SR[c]` of the external registers at power-on: any value (R35, U15). -/
opaque powerOnSr : Vector Byte 3
/-- The latched outputs `QOUT[c]` of the external registers at power-on: any value (R35, U15). -/
opaque powerOnQout : Vector Byte 3

end Config

end Sys2Proof
end

