-- ==== Sys2Proof/Syntax.lean ====
section
/-! DEFINITION. The rows of spec/opcode_table.json as one inductive, the messages, and the names of 30_encoding.md
rules R81, R100 and R101. -/

namespace Sys2Proof

/-- One message to the sink (R10, R86). U6: fields above 127 and kind 3 have no constructor. -/
inductive Msg where
  /-- `NoteOn(note, vel)` (R216). -/
  | noteOn (note vel : Q)
  /-- `NoteOff(note, vel)` (R217). -/
  | noteOff (note vel : Q)
  /-- `CC(ctrl, val)`, the source's ControlChange (R218). -/
  | cc (ctrl val : Q)
  deriving DecidableEq, Repr

/-- The analog sources of R50. -/
inductive Source where
  | amux | adir0 | adir1
  deriving DecidableEq, Repr

/-- The two delays (R241). -/
inductive Wait where
  /-- `T_SETTLE`. -/
  | settle
  /-- `T_LOOP`. -/
  | loop
  deriving DecidableEq, Repr

/-- The result of one poll (R10). -/
inductive Edge where
  | none | press | release
  deriving DecidableEq, Repr

/-- The 25 rows of spec/opcode_table.json: the 22 scan operations of format `SCAN8` (R81) and the three message words
of format `SINK16` (R86), which are transactions of the message port and no scan operations. -/
inductive Instr where
  | refresh
  | key0 | key1 | key2 | key3 | key4 | key5 | key6 | key7
  | modeb
  | mux0 | mux1 | mux2 | mux3 | mux4 | mux5 | mux6
  | dir0 | dir1
  | encl | encr
  | sleep
  | noteOn (note vel : Q)
  | noteOff (note vel : Q)
  | cc (ctrl val : Q)
  deriving DecidableEq, Repr

namespace Instr

/-- `KEYk` (R81). -/
def key : Key → Instr
  | 0 => key0 | 1 => key1 | 2 => key2 | 3 => key3 | 4 => key4 | 5 => key5 | 6 => key6 | 7 => key7

/-- `MUXi` (R81). -/
def mux : Mux → Instr
  | 0 => mux0 | 1 => mux1 | 2 => mux2 | 3 => mux3 | 4 => mux4 | 5 => mux5 | 6 => mux6

/-- `DIRj` (R81). -/
def dir : Dir → Instr
  | 0 => dir0 | 1 => dir1

/-- `ENCL` (side 0) and `ENCR` (side 1) (R81). -/
def enc : Fin 2 → Instr
  | 0 => encl | 1 => encr

/-- The message row that stands for a message. -/
def ofMsg : Msg → Instr
  | .noteOn n v => noteOn n v
  | .noteOff n v => noteOff n v
  | .cc c v => cc c v

/-- The row's mnemonic (R81, R100). -/
def mnemonic : Instr → String
  | refresh => "REFRESH"
  | key0 => "KEY0" | key1 => "KEY1" | key2 => "KEY2" | key3 => "KEY3"
  | key4 => "KEY4" | key5 => "KEY5" | key6 => "KEY6" | key7 => "KEY7"
  | modeb => "MODEB"
  | mux0 => "MUX0" | mux1 => "MUX1" | mux2 => "MUX2" | mux3 => "MUX3" | mux4 => "MUX4" | mux5 => "MUX5"
  | mux6 => "MUX6"
  | dir0 => "DIR0" | dir1 => "DIR1"
  | encl => "ENCL" | encr => "ENCR"
  | sleep => "SLEEP"
  | noteOn _ _ => "NoteOn" | noteOff _ _ => "NoteOff" | cc _ _ => "CC"

end Instr

/-! ## The pseudo-operations of R101 -/

/-- `DSCAN`, the digital scan. -/
def dscan : List Instr :=
  [.key0, .key1, .key2, .key3, .key4, .key5, .key6, .key7, .modeb]

/-- `ASCAN`, the analog scan. -/
def ascan : List Instr :=
  [.mux0, .mux1, .mux2, .mux3, .mux4, .mux5, .mux6, .dir0, .dir1]

/-- `XSCAN`, the mode-specific extras. -/
def xscan : List Instr := [.encl, .encr]

/-- `ITER`, one loop iteration. -/
def iter : List Instr := [.refresh] ++ dscan ++ ascan ++ xscan ++ [.sleep]

end Sys2Proof
end

