-- ==== Sys2Proof/WellFormed.lean ====
section
/-! DEFINITION. The checks of the spec on data the model is given: R7's constraints on the lookup tables, R84's list
of the legal scan words and its rule that "a model refuses a scan program that contains" a reserved one, and the
operand ranges of an instruction. -/

namespace Sys2Proof

/-- R7: `KEYLED` is "a bijection of 0..7" (no two keys light one LED) and `KEYLED[0] = 0`. The ranges of the other
entries are the element types of `Config.Tables`. -/
abbrev Config.Tables.wf (T : Config.Tables) : Prop :=
  (∀ k l : Key, fileGet T.keyLed k = fileGet T.keyLed l → k = l) ∧ fileGet T.keyLed 0 = 0

/-- The largest `idx` the table of R81 lists for an `op`, and none for a reserved `op` (7 to 15). -/
def maxIdx (op : Nat) : Option Nat :=
  match op with
  | 0 => some 0
  | 1 => some 7
  | 2 => some 0
  | 3 => some 6
  | 4 => some 1
  | 5 => some 1
  | 6 => some 0
  | _ => none

/-- R84: a scan word is legal when its `idx` is not above the largest one R81 lists for its `op`. -/
def scanWordLegal (w : Byte) : Bool :=
  match maxIdx (w.toNat / 16) with
  | some m => decide (w.toNat % 16 ≤ m)
  | none => false

/-- R84: a scan program is accepted only when every word in it is legal. -/
def scanProgramLegal (p : List Byte) : Bool := p.all scanWordLegal

/-- A sink word is legal when its `kind` is not the reserved kind 3 (R86, R87). -/
def sinkWordLegal (w : SinkWord) : Bool := decide (w.toNat / 16384 ≠ 3)

/-- The operand ranges of an instruction: every field of a message word is 0..127 (R86). The operand types already
say so (U6: no constructor for other values), so every term meets it (`Laws.instr_wf`). -/
def Instr.wf : Instr → Bool
  | .noteOn n v => decide (n.toNat ≤ 127) && decide (v.toNat ≤ 127)
  | .noteOff n v => decide (n.toNat ≤ 127) && decide (v.toNat ≤ 127)
  | .cc c v => decide (c.toNat ≤ 127) && decide (v.toNat ≤ 127)
  | .refresh | .key0 | .key1 | .key2 | .key3 | .key4 | .key5 | .key6 | .key7 | .modeb
  | .mux0 | .mux1 | .mux2 | .mux3 | .mux4 | .mux5 | .mux6 | .dir0 | .dir1 | .encl | .encr | .sleep => true

end Sys2Proof
end

