-- ==== Sys2Proof/Decode.lean ====
section
/-! DEFINITION. The decoder of scan words and sink words, the encoder, and the opcode table as data (30_encoding.md
rules R80 to R87). The codes are the spec's own (decision D5). -/

namespace Sys2Proof

/-- A word of one of the table's two formats. They are separate spaces: a scan word is fetched from the scan program
(R80), a sink word stands on the message port (R86), and one never turns into the other (R51). -/
inductive CodeWord where
  /-- Format `SCAN8`. -/
  | scan (w : Byte)
  /-- Format `SINK16`. -/
  | sink (w : SinkWord)
  deriving DecidableEq, Repr

/-- Why a word spells nothing. -/
inductive DecodeError where
  /-- R84: a reserved scan word. -/
  | reservedScan (w : Byte)
  /-- R86, R87: a sink word of the reserved kind 3. -/
  | reservedSink (w : SinkWord)
  deriving DecidableEq, Repr

/-- Bits 7:4 of a scan word (R80). -/
def scanOp (w : Byte) : BitVec 4 := w.extractLsb' 4 4

/-- Bits 3:0 of a scan word (R80), used as they stand (R82). -/
def scanIdx (w : Byte) : BitVec 4 := w.extractLsb' 0 4

/-- Bits 15:14 of a sink word (R86). -/
def sinkKind (w : SinkWord) : BitVec 2 := w.extractLsb' 14 2

/-- Bits 13:7 of a sink word (R86). -/
def sinkA (w : SinkWord) : Q := w.extractLsb' 7 7

/-- Bits 6:0 of a sink word (R86). -/
def sinkB (w : SinkWord) : Q := w.extractLsb' 0 7

/-- The operation a scan word spells (R81), or that it is reserved (R84). -/
def decodeScan (w : Byte) : Except DecodeError Instr :=
  match (scanOp w).toNat, (scanIdx w).toNat with
  | 0, 0 => .ok .refresh
  | 1, 0 => .ok .key0
  | 1, 1 => .ok .key1
  | 1, 2 => .ok .key2
  | 1, 3 => .ok .key3
  | 1, 4 => .ok .key4
  | 1, 5 => .ok .key5
  | 1, 6 => .ok .key6
  | 1, 7 => .ok .key7
  | 2, 0 => .ok .modeb
  | 3, 0 => .ok .mux0
  | 3, 1 => .ok .mux1
  | 3, 2 => .ok .mux2
  | 3, 3 => .ok .mux3
  | 3, 4 => .ok .mux4
  | 3, 5 => .ok .mux5
  | 3, 6 => .ok .mux6
  | 4, 0 => .ok .dir0
  | 4, 1 => .ok .dir1
  | 5, 0 => .ok .encl
  | 5, 1 => .ok .encr
  | 6, 0 => .ok .sleep
  | _, _ => .error (.reservedScan w)

/-- The message a sink word carries (R86), or that its kind is reserved (R87). -/
def decodeSink (w : SinkWord) : Except DecodeError Instr :=
  match (sinkKind w).toNat with
  | 0 => .ok (.noteOn (sinkA w) (sinkB w))
  | 1 => .ok (.noteOff (sinkA w) (sinkB w))
  | 2 => .ok (.cc (sinkA w) (sinkB w))
  | _ => .error (.reservedSink w)

/-- The decoder, total on the words of both formats. -/
def decode : CodeWord → Except DecodeError Instr
  | .scan w => decodeScan w
  | .sink w => decodeSink w

/-! ## The encoder -/

/-- A scan word from its fields (R80). -/
def scanWord (op idx : BitVec 4) : Byte := (op ++ idx).cast (by decide : 4 + 4 = 8)

/-- A sink word from its fields (R86). -/
def sinkWord (kind : BitVec 2) (a b : Q) : SinkWord := ((kind ++ a) ++ b).cast (by decide : 2 + 7 + 7 = 16)

/-- `encode(msg)` of R215: the word of a message on `SINK_MSG` (R86, R216, R217, R218). -/
def encodeMsg : Msg → SinkWord
  | .noteOn n v => sinkWord 0#2 n v
  | .noteOff n v => sinkWord 1#2 n v
  | .cc c v => sinkWord 2#2 c v

/-- The word of an instruction, from the tables of R81 and R86. -/
def encode : Instr → CodeWord
  | .refresh => .scan (scanWord 0 0)
  | .key0 => .scan (scanWord 1 0)
  | .key1 => .scan (scanWord 1 1)
  | .key2 => .scan (scanWord 1 2)
  | .key3 => .scan (scanWord 1 3)
  | .key4 => .scan (scanWord 1 4)
  | .key5 => .scan (scanWord 1 5)
  | .key6 => .scan (scanWord 1 6)
  | .key7 => .scan (scanWord 1 7)
  | .modeb => .scan (scanWord 2 0)
  | .mux0 => .scan (scanWord 3 0)
  | .mux1 => .scan (scanWord 3 1)
  | .mux2 => .scan (scanWord 3 2)
  | .mux3 => .scan (scanWord 3 3)
  | .mux4 => .scan (scanWord 3 4)
  | .mux5 => .scan (scanWord 3 5)
  | .mux6 => .scan (scanWord 3 6)
  | .dir0 => .scan (scanWord 4 0)
  | .dir1 => .scan (scanWord 4 1)
  | .encl => .scan (scanWord 5 0)
  | .encr => .scan (scanWord 5 1)
  | .sleep => .scan (scanWord 6 0)
  | .noteOn n v => .sink (encodeMsg (.noteOn n v))
  | .noteOff n v => .sink (encodeMsg (.noteOff n v))
  | .cc c v => .sink (encodeMsg (.cc c v))

/-! ## The opcode table as data -/

/-- What spec/opcode_table.json says of a row: its width, mask and match. -/
structure TableRow where
  nbits : Nat
  mask  : Nat
  value : Nat
  deriving DecidableEq, Repr

/-- The row of each instruction in spec/opcode_table.json. -/
def Instr.row : Instr → TableRow
  | .refresh => ⟨8, 0xFF, 0x00⟩
  | .key0 => ⟨8, 0xFF, 0x10⟩
  | .key1 => ⟨8, 0xFF, 0x11⟩
  | .key2 => ⟨8, 0xFF, 0x12⟩
  | .key3 => ⟨8, 0xFF, 0x13⟩
  | .key4 => ⟨8, 0xFF, 0x14⟩
  | .key5 => ⟨8, 0xFF, 0x15⟩
  | .key6 => ⟨8, 0xFF, 0x16⟩
  | .key7 => ⟨8, 0xFF, 0x17⟩
  | .modeb => ⟨8, 0xFF, 0x20⟩
  | .mux0 => ⟨8, 0xFF, 0x30⟩
  | .mux1 => ⟨8, 0xFF, 0x31⟩
  | .mux2 => ⟨8, 0xFF, 0x32⟩
  | .mux3 => ⟨8, 0xFF, 0x33⟩
  | .mux4 => ⟨8, 0xFF, 0x34⟩
  | .mux5 => ⟨8, 0xFF, 0x35⟩
  | .mux6 => ⟨8, 0xFF, 0x36⟩
  | .dir0 => ⟨8, 0xFF, 0x40⟩
  | .dir1 => ⟨8, 0xFF, 0x41⟩
  | .encl => ⟨8, 0xFF, 0x50⟩
  | .encr => ⟨8, 0xFF, 0x51⟩
  | .sleep => ⟨8, 0xFF, 0x60⟩
  | .noteOn _ _ => ⟨16, 0xC000, 0x0000⟩
  | .noteOff _ _ => ⟨16, 0xC000, 0x4000⟩
  | .cc _ _ => ⟨16, 0xC000, 0x8000⟩

/-- The width and the bits of a word, numbered as the table numbers them. -/
def CodeWord.bits : CodeWord → Nat × Nat
  | .scan w => (8, w.toNat)
  | .sink w => (16, w.toNat)

/-- The word of `nbits` bits with value `w`; the table's widths are 8 and 16. -/
def codeWordOfBits (nbits w : Nat) : Option CodeWord :=
  match nbits with
  | 8 => if w < 256 then some (.scan (BitVec.ofNat 8 w)) else none
  | 16 => if w < 65536 then some (.sink (BitVec.ofNat 16 w)) else none
  | _ => none

/-- The instruction the decoder reads from a table row's word. -/
def decodeTableWord (nbits w : Nat) : Option Instr :=
  match codeWordOfBits nbits w with
  | some c =>
    match decode c with
    | .ok i => some i
    | .error _ => none
  | none => none

end Sys2Proof
end

