-- ==== Sys2Proof/Machine/State.lean ====
section
/-! DEFINITION. All the state of the block (10_state.md rule R20), the state outside it that its pins drive (R35,
R203), the port SINK_MSG (R50), the trace (00_scope.md rule R13) and the environment's answers (20_memory.md rule
R53), as plain data; the reset state (70_reset_and_hazards.md rules R260, R261); why a step can stop. -/

namespace Sys2Proof.Machine

/-- The events of a run (R13, R100). Input events carry the answer of the environment. -/
inductive Event where
  /-- `RDPIN p -> l`. -/
  | rdpin (p : Line) (l : Level)
  /-- `SAMPLE s -> raw`. -/
  | sample (s : Source) (raw : Raw)
  /-- `SETSEL n`. -/
  | setsel (n : BitVec 3)
  /-- `DELAY t`. -/
  | delay (w : Wait)
  /-- `SHOUT c,b`: one frame, at the byte level (R200). -/
  | shout (c : Fin 3) (b : Byte)
  /-- `EMIT msg` (`failed` false) or `EMIT msg -> fail` (`failed` true). -/
  | emit (m : Msg) (failed : Bool)
  deriving DecidableEq, Repr

/-- The answers of the environment to one kind of transaction: the ones already determined, oldest first, and how many
transactions of the kind have been made. Past the end of the list the answer is a free value of Config at that number
(log entries 2 and 3). -/
structure Feed (α : Type) where
  queue : List α
  asked : Nat
  deriving DecidableEq, Repr

/-- The environment (R53): the model's own field, nothing of the block. `resets` lists the coming pulses of the input
`RST`, each by the number of moments (starts of a step, port transactions, pin writes of a frame) that pass before it
(log entry 4). -/
structure Env where
  /-- Answers to `RDPIN`. -/
  levels  : Feed Level
  /-- Answers to `SAMPLE`. -/
  samples : Feed Raw
  /-- Levels of `SINK_FAIL` at the coming `EMIT`s. -/
  fails   : Feed Bool
  /-- The coming reset pulses. -/
  resets  : List Nat
  deriving DecidableEq, Repr

/-- The external serial-to-parallel registers behind the three chains (R35, R203): bit s of `sr` at chain c is
`SR[c][s]`, bit s of `qout` at chain c is `QOUT[c][s]`. The block cannot read them and its reset does not set them. -/
structure ExtRegs where
  sr   : Vector Byte 3
  qout : Vector Byte 3
  deriving DecidableEq, Repr

/-- The machine. The fields from `pc` to `latch` are the registers of R20 and nothing else; `ext` is R35's state
outside the block; `sinkMsg`, `trace`, `env` and `offered` are the model's own. -/
structure State where
  /-- `PC`, 5 bits, the sequencer position (R21). -/
  pc      : BitVec 5
  /-- `HALT` (R22). -/
  halt    : Bool
  /-- `MODE`, 0..6 (R23, U7). -/
  mode    : Mode
  /-- `SHOWN`, `unset` or 0..6 (R24). -/
  shown   : Option Mode
  /-- `PREV[0..10]` (R25). -/
  prev    : Vector Level Config.nDin
  /-- `LAST[0..8]`, `unset` or 0..127 (R26). -/
  last    : Vector (Option Q) Config.nChannels
  /-- `ACC[0..1]` (R27). -/
  acc     : Vector Q 2
  /-- `REF[0..1]`, `unset` or a raw sample (R28). -/
  ref     : Vector (Option Raw) 2
  /-- `GWP[0..1]` (R29). -/
  gwp     : Vector Bool 2
  /-- `DIGL`, 0..16 (R30). -/
  digL    : Fin 17
  /-- `DIGR`, 0..16 (R30). -/
  digR    : Fin 17
  /-- `IND` (R31). -/
  ind     : Byte
  /-- `SEL`, the three selector lines (R32, R88). -/
  sel     : BitVec 3
  /-- `DATA[0..2]` (R33). -/
  data    : Vector Bool 3
  /-- `CLK[0..2]` (R33). -/
  clk     : Vector Bool 3
  /-- `LATCH[0..2]` (R33). -/
  latch   : Vector Bool 3
  /-- The external registers (R35, R203). -/
  ext     : ExtRegs
  /-- The word last presented on the port `SINK_MSG` (R50, R215), none before the first `EMIT`. -/
  sinkMsg : Option SinkWord
  /-- The events so far, oldest first (R13). -/
  trace   : List Event
  /-- The environment (R53). -/
  env     : Env
  /-- A sink word put to the message port from outside the scan program, whose transaction is the next step; none in
  every run of the block (log entry 5). -/
  offered : Option SinkWord
  deriving DecidableEq, Repr

/-- No step of this model answers a fault. The block's only exception is `SinkFail` (R230), and taking it is a next
state with `HALT` set (R234); R231 says there is no other fault of any kind. The type therefore has no constructor,
which is safe: nothing is stopped that the spec lets go on. -/
inductive Fault
  deriving DecidableEq, Repr

/-- Why a step has no meaning. Every constructor is safe: the model stops and claims nothing. -/
inductive Refusal where
  /-- An instruction without a meaning, by its mnemonic. Raised by no arm of this model. Safe. -/
  | notModelled (mnemonic : String)
  /-- `PC` is 22..31, where the scan program has no word. Raised by the fetch (U7: "if it uses raw bit vectors it
  treats these values as `refuse`"). Never in a state that meets `Safety.Invariant`. Safe. -/
  | positionOutsideProgram (pc : BitVec 5)
  /-- A reserved scan word (R84, U5). Raised by the fetch on a scan program that holds one, which R110's does not.
  Safe. -/
  | reservedScanWord (w : Byte)
  /-- A sink word of the reserved kind 3 put to the message port (R87, U6). Raised by the fetch. Safe. -/
  | reservedSinkWord (w : SinkWord)
  deriving DecidableEq, Repr

/-- The exceptions of the block: one (R230). -/
inductive Exception where
  | sinkFail
  deriving DecidableEq, Repr

/-- The exception's code (R230, decision D25). -/
def Exception.code : Exception → Nat
  | .sinkFail => 1

/-- What ends an operation before its rule ends: the exception, or the input `RST` (R260). -/
inductive Stop where
  | exc (e : Exception)
  | rst
  deriving DecidableEq, Repr

/-- An operation or a part of one: statements that run in the order written (R11), each a transition of State, ended
early by a `Stop`. Writes made before a `Stop` stand (R234). -/
abbrev Op (α : Type) := EStateM Stop State α

/-- The state right after power-on or `RST` (R260, R261): every register of R20 at the value of its table, the
external registers unknown (R35), nothing sent, nothing answered. -/
def State.reset : State :=
  { pc := 0#5
    halt := false
    mode := 0
    shown := none
    prev := Vector.replicate Config.nDin high
    last := Vector.replicate Config.nChannels none
    acc := Vector.replicate 2 Config.accInit
    ref := Vector.replicate 2 none
    gwp := Vector.replicate 2 false
    digL := Config.blankDigit
    digR := Config.blankDigit
    ind := 0#8
    sel := 0#3
    data := Vector.replicate 3 false
    clk := Vector.replicate 3 false
    latch := Vector.replicate 3 true
    ext := { sr := Config.powerOnSr, qout := Config.powerOnQout }
    sinkMsg := none
    trace := []
    env :=
      { levels := { queue := [], asked := 0 }
        samples := { queue := [], asked := 0 }
        fails := { queue := [], asked := 0 }
        resets := [] }
    offered := none }

end Sys2Proof.Machine
end

