-- ==== Sys2Proof/Machine/Operands.lean ====
section
/-! DEFINITION. The operands of the operations: index maps (20_memory.md rules R54 to R57), derived operands
(30_encoding.md rules R94 to R96) and the arithmetic of 00_scope.md rule R12, R145 (quantizer), R167 (delta), R182
(segments) and R183 (LED mask). None of these is encoded in a word (R82). -/

namespace Sys2Proof.Machine

/-! ## Index maps -/

/-- The digital input of key k (R54). -/
def keyPin (k : Key) : Line := ⟨k.val, Nat.lt_trans k.isLt (by decide)⟩

/-- The digital input of the mode button, 8: the one after the keys (R54). -/
def modePin : Line := ⟨Config.nKeys, by decide⟩

/-- The digital input of an encoder button: 9 left (side 0), 10 right (side 1) (R54). -/
def encPin (side : Fin 2) : Line := ⟨Config.nKeys + 1 + side.val, Nat.add_lt_add_left side.isLt _⟩

/-- The digital input of delta instance j's gate: the line of its gate key (R54, R165). -/
def gatePin (j : Fin 2) : Line := keyPin (Config.gateKey j)

/-- The `LAST` entry of multiplexed channel i (R55). -/
def muxChannel (i : Mux) : Channel := ⟨i.val, Nat.lt_trans i.isLt (by decide)⟩

/-- The `LAST` entry of direct channel j (R55). -/
def dirChannel (j : Dir) : Channel := ⟨Config.nMux + j.val, Nat.add_lt_add_left j.isLt _⟩

/-- The value on the selector lines for multiplexed channel i: the index itself (R55, R88). -/
def selValue (i : Mux) : BitVec 3 := BitVec.ofNat 3 i.val

/-- The source of direct channel j (R55). -/
def dirSource (j : Dir) : Source :=
  match j with
  | 0 => .adir0
  | 1 => .adir1

/-- The controller number of multiplexed channel i, i in 1..6 (R95). -/
def muxCc (i : Mux) : Q := Config.muxCc i

/-- The controller number of direct channel j (R95). -/
def dirCc (j : Dir) : Q := Config.dirCc j

/-- The chain of the left digit (R56). -/
def chainLeft : Fin 3 := 0
/-- The chain of the right digit (R56). -/
def chainRight : Fin 3 := 1
/-- The chain of the LED bank (R56). -/
def chainLed : Fin 3 := 2

/-! ## Derived operands -/

/-- `note(m, k) = 12 * m + k` (R94); at most 79, so it fits its 7 bits. -/
def noteOf (m : Mode) (k : Key) : Q := BitVec.ofNat 7 (Config.noteStride * m.val + k.val)

/-- The transition of the mode state machine, `(MODE + 1) mod 7` (R180). -/
def nextMode (m : Mode) : Mode := ⟨(m.val + 1) % Config.nModes, Nat.mod_lt _ (by decide)⟩

/-! ## Arithmetic -/

/-- `clamp(v, 0, Q_MAX)` (R12), as a 7-bit value. -/
def clampQ (v : Int) : Q :=
  if v < 0 then 0#7 else if (Config.qMax : Int) < v then BitVec.ofNat 7 Config.qMax else BitVec.ofNat 7 v.toNat

/-- `QUANT(raw)` in the integer form of R146, `127 - floor((254 * raw + 65535) / 131070)` with `Q_MAX` 127 and
`RAW_MAX` 65535. The clamp is R145's; it never acts on a 16-bit sample. -/
def quant (raw : Raw) : Q :=
  clampQ (Config.qMax - (2 * Config.qMax * (raw.toNat : Int) + Config.rawMax) / (2 * Config.rawMax))

/-- `d = floor((REF[j] - raw) / 512)` (R166), toward minus infinity (R167): Lean's integer division by a positive
number rounds so. -/
def deltaStep (ref raw : Raw) : Int := ((ref.toNat : Int) - (raw.toNat : Int)) / Config.deltaDiv

/-- `SEGLOOKUP(d)` (R182): "unmapped digit value — silently rendered blank". -/
def segLookup (T : Config.Tables) (d : Nat) : Byte :=
  if h : d ≤ 16 then fileGet T.seg7 ⟨d, Nat.lt_succ_of_le h⟩ else fileGet T.seg7 Config.blankDigit

/-- The bit of LED index i in a mask: bit i, none for an index outside 0..7 (R90). -/
def ledBit (i : Nat) : Byte := if i ≤ 7 then 1#8 <<< i else 0#8

/-- `LEDMASK(S)` (R183): the union of the bits of the indices in S. -/
def ledMask : List Nat → Byte
  | [] => 0#8
  | i :: rest => ledBit i ||| ledMask rest

end Sys2Proof.Machine
end

