-- ==== Sys2Proof/Machine/Flags.lean ====
section
/-! DEFINITION. The conditions the rules test. The block has no condition-code register (10_state.md rule R34): each
of these is computed from registers and samples and consumed inside one operation. -/

namespace Sys2Proof.Machine

/-- The truth table of `POLL` (R125): an edge is the change between the stored sample and the present one. -/
def edgeOf (prev cur : Level) : Edge :=
  match prev, cur with
  | true, true => .none
  | true, false => .press
  | false, false => .none
  | false, true => .release

/-- R93: the comparison `X != v` of an optional register, true when the register is `unset`. -/
def differs {α : Type} [BEq α] (register : Option α) (v : α) : Bool :=
  match register with
  | none => true
  | some w => !(w == v)

/-- R126: `guard <- (MODE == 1) and (k == 0 or k == 3)`. -/
def guarded (m : Mode) (k : Key) : Bool :=
  m == Config.deltaMode && (k == Config.gateKey 0 || k == Config.gateKey 1)

/-- R126, R184: a press edge rewrites the indicator in modes 0, 3 and 4. -/
def pressLights (m : Mode) : Bool := Config.pulseModes.contains m

/-- R126, R184: a release edge restores the idle pattern except in modes 1, 2, 5 and 6. -/
def releaseRestores (m : Mode) : Bool := !(Config.persistModes.contains m)

/-- R166: `gate_pressed`, a gate line that reads low. -/
def gatePressed (l : Level) : Bool := l == low

end Sys2Proof.Machine
end

