-- ==== Sys2Proof/Machine/Ops.lean ====
section
/-! DEFINITION. The named operations over State: register writes, the environment's answers, the six port primitives
(20_memory.md rule R52) with the frame at the pins (45_output_shifter.md rule R200) and the external registers
(R203), `EMIT` (46_sink.md rule R215), taking the one exception (60_exceptions.md rule R234), reset (R260), and how
an operation's end becomes the outcome of a step. -/

namespace Sys2Proof.Machine

/-! ## Register writes (`X <- v` of R11) -/

namespace State

/-- `PC <- v`. -/
def setPc (v : BitVec 5) (s : State) : State := { s with pc := v }
/-- `HALT <- v`. -/
def setHalt (v : Bool) (s : State) : State := { s with halt := v }
/-- `MODE <- v`. -/
def setMode (v : Mode) (s : State) : State := { s with mode := v }
/-- `SHOWN <- v`. -/
def setShown (v : Option Mode) (s : State) : State := { s with shown := v }
/-- `PREV[p] <- l`. -/
def setPrev (p : Line) (l : Level) (s : State) : State := { s with prev := fileSet s.prev p l }
/-- `LAST[c] <- q`. -/
def setLast (c : Channel) (q : Option Q) (s : State) : State := { s with last := fileSet s.last c q }
/-- `ACC[j] <- a`. -/
def setAcc (j : Fin 2) (a : Q) (s : State) : State := { s with acc := fileSet s.acc j a }
/-- `REF[j] <- r`. -/
def setRef (j : Fin 2) (r : Option Raw) (s : State) : State := { s with ref := fileSet s.ref j r }
/-- `GWP[j] <- g`. -/
def setGwp (j : Fin 2) (g : Bool) (s : State) : State := { s with gwp := fileSet s.gwp j g }
/-- `(DIGL, DIGR) <- (l, r)`. -/
def setDigits (l r : Fin 17) (s : State) : State := { s with digL := l, digR := r }
/-- `IND <- b`. -/
def setInd (b : Byte) (s : State) : State := { s with ind := b }
/-- `SEL <- n`: the three selector lines carry n in binary (R88). -/
def setSel (n : BitVec 3) (s : State) : State := { s with sel := n }
/-- `SINK_MSG <- w`. -/
def present (w : SinkWord) (s : State) : State := { s with sinkMsg := some w }
/-- One more event of the trace (R13). -/
def log (e : Event) (s : State) : State := { s with trace := s.trace ++ [e] }
/-- The coming reset pulses become `rs`. -/
def setResets (rs : List Nat) (s : State) : State := { s with env := { s.env with resets := rs } }
/-- The word at the message port becomes `w`. -/
def setOffered (w : Option SinkWord) (s : State) : State := { s with offered := w }

end State

/-! ## The environment's answers (R53) -/

/-- The answer to the coming transaction: the first one listed, a free value when none is. -/
def Feed.now {α : Type} (free : Nat → α) (f : Feed α) : α :=
  match f.queue with
  | a :: _ => a
  | [] => free f.asked

/-- The answers left after one transaction. -/
def Feed.rest {α : Type} (f : Feed α) : Feed α := { queue := f.queue.tail, asked := f.asked + 1 }

namespace State

/-- What the coming `RDPIN` answers. -/
def levelNow (s : State) : Level := s.env.levels.now Config.freeLevel
/-- What the coming `SAMPLE` answers. -/
def sampleNow (s : State) : Raw := s.env.samples.now Config.freeSample
/-- What `SINK_FAIL` reads at the coming `EMIT`. -/
def failNow (s : State) : Bool := s.env.fails.now Config.freeFail
/-- The environment has answered an `RDPIN`. -/
def tookLevel (s : State) : State := { s with env := { s.env with levels := s.env.levels.rest } }
/-- The environment has answered a `SAMPLE`. -/
def tookSample (s : State) : State := { s with env := { s.env with samples := s.env.samples.rest } }
/-- The environment has answered an `EMIT`. -/
def tookFail (s : State) : State := { s with env := { s.env with fails := s.env.fails.rest } }

end State

/-! ## Statements -/

/-- The value of an expression over the registers. -/
def Op.read {α : Type} (f : State → α) : Op α := fun s => .ok (f s) s

/-- A register write. -/
def Op.write (f : State → State) : Op Unit := fun s => .ok () (f s)

/-- An operation ends before its rule ends. -/
def Op.stop {α : Type} (w : Stop) : Op α := fun s => .error w s

/-- One moment at which the input `RST` can take effect (R260, log entry 4): the operation is abandoned when a reset
pulse is due, and otherwise the coming pulse is one moment nearer. -/
def checkReset : Op Unit := fun s =>
  match s.env.resets with
  | [] => .ok () s
  | 0 :: later => .error .rst (s.setResets later)
  | (n + 1) :: later => .ok () (s.setResets (n :: later))

/-! ## The port primitives (R52) -/

/-- `RDPIN(p)`: the present level of line p, chosen by the environment (R53). -/
def rdpin (p : Line) : Op Level := do
  checkReset
  let l ← Op.read State.levelNow
  Op.write fun s => s.tookLevel.log (.rdpin p l)
  return l

/-- `SAMPLE(s)`: one conversion of source s, chosen by the environment whatever `SEL` holds (R53). -/
def sample (src : Source) : Op Raw := do
  checkReset
  let raw ← Op.read State.sampleNow
  Op.write fun s => s.tookSample.log (.sample src raw)
  return raw

/-- `SETSEL(n)`: issued also when `SEL` already holds n (R62). -/
def setsel (n : BitVec 3) : Op Unit := do
  checkReset
  Op.write fun s => (s.setSel n).log (.setsel n)

/-- `DELAY(t)`: an event with no effect on state (R52, R290). -/
def delay (w : Wait) : Op Unit := do
  checkReset
  Op.write fun s => s.log (.delay w)

/-- A write of one of a chain's three pins. -/
inductive PinWrite where
  | data (c : Fin 3) (v : Bool)
  | clk (c : Fin 3) (v : Bool)
  | latch (c : Fin 3) (v : Bool)
  deriving DecidableEq, Repr

/-- R203, a rising edge of `CLK[c]`: every stage takes the one before it and stage 0 takes the data line. -/
def shiftIn (sr : Byte) (d : Bool) : Byte := (sr <<< 1) ||| (if d then 1#8 else 0#8)

/-- One pin write, with what the external register does on a rising edge (R203). -/
def pinWrite (w : PinWrite) (s : State) : State :=
  match w with
  | .data c v => { s with data := fileSet s.data c v }
  | .clk c v =>
    if v && !(fileGet s.clk c) then
      { s with
        clk := fileSet s.clk c v
        ext := { s.ext with sr := fileSet s.ext.sr c (shiftIn (fileGet s.ext.sr c) (fileGet s.data c)) } }
    else { s with clk := fileSet s.clk c v }
  | .latch c v =>
    if v && !(fileGet s.latch c) then
      { s with
        latch := fileSet s.latch c v
        ext := { s.ext with qout := fileSet s.ext.qout c (fileGet s.ext.sr c) } }
    else { s with latch := fileSet s.latch c v }

/-- The three pin writes that send one bit (R200): data, then a clock pulse. -/
def bitWrites (c : Fin 3) (v : Bool) : List PinWrite := [.data c v, .clk c true, .clk c false]

/-- The 26 pin writes of `SHOUT(c, b)` in order (R200): latch low, bits 0 to 7, latch high. -/
def frameWrites (c : Fin 3) (b : Byte) : List PinWrite :=
  [.latch c false] ++
  bitWrites c (b.getLsbD 0) ++ bitWrites c (b.getLsbD 1) ++ bitWrites c (b.getLsbD 2) ++
  bitWrites c (b.getLsbD 3) ++ bitWrites c (b.getLsbD 4) ++ bitWrites c (b.getLsbD 5) ++
  bitWrites c (b.getLsbD 6) ++ bitWrites c (b.getLsbD 7) ++
  [.latch c true]

/-- The effect of a list of pin writes, in order. -/
def runPins (ws : List PinWrite) (s : State) : State := ws.foldl (fun t w => pinWrite w t) s

/-- Pin writes one by one, each a moment at which a reset can abandon the frame (R260). -/
def sendPins : List PinWrite → Op Unit
  | [] => pure ()
  | w :: ws => do
    checkReset
    Op.write (pinWrite w)
    sendPins ws

/-- `SHOUT(c, b)`: the frame at the pins, then its one event (R200). Never elided (R62). -/
def shout (c : Fin 3) (b : Byte) : Op Unit := do
  sendPins (frameWrites c b)
  Op.write fun s => s.log (.shout c b)

/-- `EMIT(msg)` (R215): presents the word and reads `SINK_FAIL`; the result is true for `fail`. -/
def emit (m : Msg) : Op Bool := do
  checkReset
  Op.write fun s => s.present (encodeMsg m)
  let failed ← Op.read State.failNow
  Op.write fun s => s.tookFail.log (.emit m failed)
  return failed

/-- `r <- EMIT(msg); if r == fail: halt(SinkFail)` of the operation rules. -/
def send (m : Msg) : Op Unit := do
  let failed ← emit m
  if failed then Op.stop (.exc .sinkFail) else pure ()

/-- `PC <- PC + 1`, with which every operation other than `SLEEP` ends (R112). -/
def advance : Op Unit := Op.write fun s => s.setPc (s.pc + 1#5)

/-! ## Taking the exception, and the way back (R234, R235) -/

/-- `halt(SinkFail)`: `HALT <- 1` and nothing else. Nothing is saved, `PC` keeps the failing operation's index, all
pins keep their levels (R234). -/
def takeException (e : Exception) (s : State) : State :=
  match e with
  | .sinkFail => s.setHalt true

/-- What the external registers do when the pins take their reset levels all at once: the level 1 of `LATCH[c]` is a
rising edge for a chain whose latch was low (R203, R204); the level 0 of `CLK[c]` is none. -/
def ExtRegs.afterReset (x : ExtRegs) (latch : Vector Bool 3) : ExtRegs :=
  { x with qout := Vector.ofFn fun c => if fileGet latch c then fileGet x.qout c else fileGet x.sr c }

/-- The return from the halt, and the effect of `RST` in any state (R235, R260): every register takes its reset value.
The external registers, the port and the events so far are not the block's registers (R263). -/
def State.afterReset (s : State) : State :=
  { State.reset with
    ext := s.ext.afterReset s.latch
    sinkMsg := s.sinkMsg
    trace := s.trace
    env := s.env }

/-- The state a whole operation leaves: its rule's end, the exception taken, or the reset. -/
def Op.ended (r : EStateM.Result Stop State Unit) : State :=
  match r with
  | .ok _ t => t
  | .error (.exc e) t => takeException e t
  | .error .rst t => t.afterReset

/-- The outcome of a whole operation: always a next state (R230, R231, R234). -/
def runOp (op : Op Unit) (s : State) : Host.Outcome State Fault Refusal := .next (Op.ended (op s))

end Sys2Proof.Machine
end

