-- ==== Sys2Proof/Machine/Delta.lean ====
section
/-! DEFINITION. The Delta Controller (43_delta_controller.md): the procedure `DELTA` that `MUX0` calls in mode 1. -/

namespace Sys2Proof.Machine

/-- R166: "rising edge of the gate": the sample becomes the reference when the gate is held now and was not before. -/
def deltaCapture (j : Fin 2) (raw : Raw) (g was : Bool) : Op Unit :=
  if g && !was then Op.write fun s => s.setRef j (some raw) else pure ()

/-- R166: the message, then the accumulator and the re-baseline. -/
def deltaMove (j : Fin 2) (raw : Raw) (cand : Q) : Op Unit := do
  send (.cc (Config.deltaCc j) cand)
  Op.write fun s => (s.setAcc j cand).setRef j (some raw)

/-- R166: the candidate, acted upon when d is not 0 and the candidate is not the accumulator. -/
def deltaTry (j : Fin 2) (raw ref : Raw) (acc : Q) : Op Unit :=
  let d := deltaStep ref raw
  let cand := clampQ ((acc.toNat : Int) + d)
  if d ≠ 0 ∧ cand ≠ acc then deltaMove j raw cand else pure ()

/-- R166: `if g and REF[j] != unset`. -/
def deltaHeld (j : Fin 2) (raw : Raw) (g : Bool) (ref : Option Raw) (acc : Q) : Op Unit :=
  match g, ref with
  | true, some r => deltaTry j raw r acc
  | true, none => pure ()
  | false, _ => pure ()

/-- `DELTA(j, raw)` (R166). The gate level is a fresh read of the key's line. -/
def delta (j : Fin 2) (raw : Raw) : Op Unit := do
  let l ← rdpin (gatePin j)
  let was ← Op.read fun s => fileGet s.gwp j
  deltaCapture j raw (gatePressed l) was
  let ref ← Op.read fun s => fileGet s.ref j
  let acc ← Op.read fun s => fileGet s.acc j
  deltaHeld j raw (gatePressed l) ref acc
  Op.write fun s => s.setGwp j (gatePressed l)

end Sys2Proof.Machine
end

