-- ==== Sys2Proof/Machine/Analog.lean ====
section
/-! DEFINITION. The Analog Scanner (42_analog_scanner.md): `ACQUIRE`, `MUX0` to `MUX6`, `DIR0`, `DIR1`. -/

namespace Sys2Proof.Machine

/-- `ACQUIRE(i)` (R148): the selector, the settle delay in full, the sample; always all three (R62, R270). -/
def acquire (i : Mux) : Op Raw := do
  setsel (selValue i)
  delay .settle
  sample .amux

/-- R149 to R151: the message, then the value last emitted. -/
def report (c : Channel) (ctrl q : Q) : Op Unit := do
  send (.cc ctrl q)
  Op.write fun s => s.setLast c (some q)

/-- Duplicate suppression (R149 to R152): a message only when the quantized value differs from the last one emitted
for the channel. -/
def sendIfChanged (c : Channel) (ctrl q : Q) : Op Unit := do
  let old ← Op.read fun s => fileGet s.last c
  if differs old q then report c ctrl q else pure ()

/-- R150 after the sample: in mode 1 the two delta instances, 0 before 1, on the same sample; otherwise the quantized
channel on the mode's controller. -/
def channelZero (T : Config.Tables) (raw : Raw) (m : Mode) : Op Unit :=
  if m = Config.deltaMode then delta 0 raw >>= fun _ => delta 1 raw
  else sendIfChanged (muxChannel 0) (fileGet T.ch0Cc m) (quant raw)

/-- `MUX0` (R150). -/
def opMux0 (T : Config.Tables) : Op Unit := do
  let raw ← acquire 0
  let m ← Op.read State.mode
  channelZero T raw m
  advance

/-- `MUXi`, i in 1..6 (R149). -/
def opMux (i : Mux) : Op Unit := do
  let raw ← acquire i
  sendIfChanged (muxChannel i) (muxCc i) (quant raw)
  advance

/-- `DIRj` (R151): no selector write and no settle delay. -/
def opDir (j : Dir) : Op Unit := do
  let raw ← sample (dirSource j)
  sendIfChanged (dirChannel j) (dirCc j) (quant raw)
  advance

/-- The meaning of `MUX0`. -/
def execMux0 (s : State) : Host.Outcome State Fault Refusal := runOp (opMux0 Config.tables) s
/-- The meaning of `MUX1`. -/
def execMux1 (s : State) : Host.Outcome State Fault Refusal := runOp (opMux 1) s
/-- The meaning of `MUX2`. -/
def execMux2 (s : State) : Host.Outcome State Fault Refusal := runOp (opMux 2) s
/-- The meaning of `MUX3`. -/
def execMux3 (s : State) : Host.Outcome State Fault Refusal := runOp (opMux 3) s
/-- The meaning of `MUX4`. -/
def execMux4 (s : State) : Host.Outcome State Fault Refusal := runOp (opMux 4) s
/-- The meaning of `MUX5`. -/
def execMux5 (s : State) : Host.Outcome State Fault Refusal := runOp (opMux 5) s
/-- The meaning of `MUX6`. -/
def execMux6 (s : State) : Host.Outcome State Fault Refusal := runOp (opMux 6) s
/-- The meaning of `DIR0`. -/
def execDir0 (s : State) : Host.Outcome State Fault Refusal := runOp (opDir 0) s
/-- The meaning of `DIR1`. -/
def execDir1 (s : State) : Host.Outcome State Fault Refusal := runOp (opDir 1) s

end Sys2Proof.Machine
end

