-- ==== Sys2Proof/Machine/Display.lean ====
section
/-! DEFINITION. The Display Driver and the Indicator Driver (44_mode_display_indicator.md): `REFRESH` and the
indicator write of the keys. -/

namespace Sys2Proof.Machine

/-- `IND <- mask; SHOUT(2, IND)`: every write of the indicator replaces it whole and is sent at once (R31, R184). -/
def showLeds (mask : Byte) : Op Unit := do
  Op.write fun s => s.setInd mask
  shout chainLed mask

/-- R181 when the mode shown is not the mode: the digits, the static pattern, `SHOWN`, in the order left, right,
LEDs. -/
def redraw (T : Config.Tables) (m : Mode) : Op Unit := do
  Op.write fun s => s.setDigits (fileGet T.disp m).1 (fileGet T.disp m).2
  shout chainLeft (segLookup T (fileGet T.disp m).1.val)
  shout chainRight (segLookup T (fileGet T.disp m).2.val)
  showLeds (ledMask (fileGet T.modeLeds m))
  Op.write fun s => s.setShown (some m)

/-- R181: `if SHOWN != MODE`, true when `SHOWN` is `unset`. -/
def redrawIfChanged (T : Config.Tables) (shown : Option Mode) (m : Mode) : Op Unit :=
  if differs shown m then redraw T m else pure ()

/-- `REFRESH` (R181). -/
def opRefresh (T : Config.Tables) : Op Unit := do
  let m ← Op.read State.mode
  let shown ← Op.read State.shown
  redrawIfChanged T shown m
  advance

/-- The meaning of `REFRESH`. -/
def execRefresh (s : State) : Host.Outcome State Fault Refusal := runOp (opRefresh Config.tables) s

end Sys2Proof.Machine
end

