-- ==== Sys2Proof/Machine/Input.lean ====
section
/-! DEFINITION. The Input Scanner (41_input_scanner.md): `POLL`, `KEY0` to `KEY7`, `MODEB`, `ENCL`, `ENCR`. -/

namespace Sys2Proof.Machine

/-- `POLL(p)` (R125): no filter, one stored sample (R127). -/
def poll (p : Line) : Op Edge := do
  let cur ← rdpin p
  let prev ← Op.read fun s => fileGet s.prev p
  Op.write fun s => s.setPrev p cur
  return edgeOf prev cur

/-- R126 after an unguarded press edge: the message, then the indicator in modes 0, 3 and 4. -/
def keyPress (T : Config.Tables) (k : Key) (m : Mode) : Op Unit := do
  send (.noteOn (noteOf m k) Config.velOn)
  if pressLights m then showLeds (ledMask [(fileGet T.keyLed k).val]) else pure ()

/-- R126 after an unguarded release edge: the message, then the idle pattern except in modes 1, 2, 5 and 6. -/
def keyRelease (k : Key) (m : Mode) : Op Unit := do
  send (.noteOff (noteOf m k) Config.velOff)
  if releaseRestores m then showLeds (ledMask [Config.idleLed]) else pure ()

/-- R126 after the poll: what an edge does, nothing under the guard. -/
def keyEdge (T : Config.Tables) (k : Key) (m : Mode) (e : Edge) : Op Unit :=
  if guarded m k then pure ()
  else
    match e with
    | .none => pure ()
    | .press => keyPress T k m
    | .release => keyRelease k m

/-- `KEYk` (R126). The guard suppresses the message and the indicator, not the poll (R128). -/
def opKey (T : Config.Tables) (k : Key) : Op Unit := do
  let e ← poll (keyPin k)
  let m ← Op.read State.mode
  keyEdge T k m e
  advance

/-- R130, R180: a press edge advances the mode, nothing else does. -/
def modeEdge (e : Edge) : Op Unit :=
  if e = .press then Op.write fun s => s.setMode (nextMode s.mode) else pure ()

/-- `MODEB` (R130). -/
def opModeb : Op Unit := do
  let e ← poll modePin
  modeEdge e
  advance

/-- R131, R132: a press edge sends the side's sentinel; a release edge nothing (R133). -/
def encEdge (side : Fin 2) (e : Edge) : Op Unit :=
  if e = .press then send (.cc Config.encCc (Config.encVal side)) else pure ()

/-- R131, R132: outside mode 2 the line is not even read. -/
def encPoll (side : Fin 2) (m : Mode) : Op Unit :=
  if m = Config.encMode then poll (encPin side) >>= encEdge side else pure ()

/-- `ENCL` (side 0, R131) and `ENCR` (side 1, R132). -/
def opEnc (side : Fin 2) : Op Unit := do
  let m ← Op.read State.mode
  encPoll side m
  advance

/-- The meaning of `KEY0`. -/
def execKey0 (s : State) : Host.Outcome State Fault Refusal := runOp (opKey Config.tables 0) s
/-- The meaning of `KEY1`. -/
def execKey1 (s : State) : Host.Outcome State Fault Refusal := runOp (opKey Config.tables 1) s
/-- The meaning of `KEY2`. -/
def execKey2 (s : State) : Host.Outcome State Fault Refusal := runOp (opKey Config.tables 2) s
/-- The meaning of `KEY3`. -/
def execKey3 (s : State) : Host.Outcome State Fault Refusal := runOp (opKey Config.tables 3) s
/-- The meaning of `KEY4`. -/
def execKey4 (s : State) : Host.Outcome State Fault Refusal := runOp (opKey Config.tables 4) s
/-- The meaning of `KEY5`. -/
def execKey5 (s : State) : Host.Outcome State Fault Refusal := runOp (opKey Config.tables 5) s
/-- The meaning of `KEY6`. -/
def execKey6 (s : State) : Host.Outcome State Fault Refusal := runOp (opKey Config.tables 6) s
/-- The meaning of `KEY7`. -/
def execKey7 (s : State) : Host.Outcome State Fault Refusal := runOp (opKey Config.tables 7) s
/-- The meaning of `MODEB`. -/
def execModeb (s : State) : Host.Outcome State Fault Refusal := runOp opModeb s
/-- The meaning of `ENCL`. -/
def execEncl (s : State) : Host.Outcome State Fault Refusal := runOp (opEnc 0) s
/-- The meaning of `ENCR`. -/
def execEncr (s : State) : Host.Outcome State Fault Refusal := runOp (opEnc 1) s

end Sys2Proof.Machine
end

