-- ==== Sys2Proof/Machine/Sequencer.lean ====
section
/-! DEFINITION. `SLEEP` (40_sequencer.md rule R114), the only transfer of control (R113). -/

namespace Sys2Proof.Machine

/-- `SLEEP`: the loop delay, then `PC <- 0` (R114). -/
def opSleep : Op Unit := do
  delay .loop
  Op.write fun s => s.setPc 0#5

/-- The meaning of `SLEEP`. -/
def execSleep (s : State) : Host.Outcome State Fault Refusal := runOp opSleep s

end Sys2Proof.Machine
end

