-- ==== Sys2Proof/Machine/Sink.lean ====
section
/-! DEFINITION. The three message words of format `SINK16` (46_sink.md rules R215 to R218): each is one transaction of
the message port. A message word is no scan operation, so it leaves `PC` alone (R112 speaks of scan operations). -/

namespace Sys2Proof.Machine

/-- The meaning of the message word `NoteOn` (R216). -/
def execNoteOn (note vel : Q) (s : State) : Host.Outcome State Fault Refusal := runOp (send (.noteOn note vel)) s
/-- The meaning of the message word `NoteOff` (R217). -/
def execNoteOff (note vel : Q) (s : State) : Host.Outcome State Fault Refusal := runOp (send (.noteOff note vel)) s
/-- The meaning of the message word `CC` (R218). -/
def execCc (ctrl val : Q) (s : State) : Host.Outcome State Fault Refusal := runOp (send (.cc ctrl val)) s

end Sys2Proof.Machine
end

