-- ==== Sys2Proof/Machine/Dispatch.lean ====
section
/-! DEFINITION. One arm per row of spec/opcode_table.json, each one call of the row's own meaning. -/

namespace Sys2Proof.Machine

def exec (i : Instr) (s : State) : Host.Outcome State Fault Refusal :=
  match i with
  | .refresh => Sys2Proof.Machine.execRefresh s
  | .key0 => Sys2Proof.Machine.execKey0 s
  | .key1 => Sys2Proof.Machine.execKey1 s
  | .key2 => Sys2Proof.Machine.execKey2 s
  | .key3 => Sys2Proof.Machine.execKey3 s
  | .key4 => Sys2Proof.Machine.execKey4 s
  | .key5 => Sys2Proof.Machine.execKey5 s
  | .key6 => Sys2Proof.Machine.execKey6 s
  | .key7 => Sys2Proof.Machine.execKey7 s
  | .modeb => Sys2Proof.Machine.execModeb s
  | .mux0 => Sys2Proof.Machine.execMux0 s
  | .mux1 => Sys2Proof.Machine.execMux1 s
  | .mux2 => Sys2Proof.Machine.execMux2 s
  | .mux3 => Sys2Proof.Machine.execMux3 s
  | .mux4 => Sys2Proof.Machine.execMux4 s
  | .mux5 => Sys2Proof.Machine.execMux5 s
  | .mux6 => Sys2Proof.Machine.execMux6 s
  | .dir0 => Sys2Proof.Machine.execDir0 s
  | .dir1 => Sys2Proof.Machine.execDir1 s
  | .encl => Sys2Proof.Machine.execEncl s
  | .encr => Sys2Proof.Machine.execEncr s
  | .sleep => Sys2Proof.Machine.execSleep s
  | .noteOn note vel => Sys2Proof.Machine.execNoteOn note vel s
  | .noteOff note vel => Sys2Proof.Machine.execNoteOff note vel s
  | .cc ctrl val => Sys2Proof.Machine.execCc ctrl val s

end Sys2Proof.Machine
end

