-- ==== Sys2Proof/Machine/Fetch.lean ====
section
/-! DEFINITION. What the sequencer does next (40_sequencer.md rules R110, R111): the reset pulse, the halt, a message
word at the port, or the scan word at `PC`; and where a table word stands so that it is the next one. -/

namespace Sys2Proof.Machine

/-- What a step begins with. -/
inductive Fetched where
  /-- `RST` takes effect before the operation starts (R260). -/
  | reset (s : State)
  /-- `HALT` is 1: nothing starts (R22). -/
  | idle (s : State)
  /-- An instruction to run. -/
  | run (i : Instr) (s : State)
  /-- A word that spells nothing, or no word. -/
  | refuse (r : Refusal)
  deriving DecidableEq, Repr

/-- The word at a sequencer position, none at 22..31 (R21). -/
def scanWordAt (pc : BitVec 5) : Option Byte := Config.scanProgram.toList[pc.toNat]?

/-- A word of the message port, decoded (R86); no wait for `PC`. -/
def fetchOffered (w : SinkWord) (s : State) : Fetched :=
  match decodeSink w with
  | .ok i => .run i (s.setOffered none)
  | .error _ => .refuse (.reservedSinkWord w)

/-- The word at `PC`, decoded by R81 (R111). -/
def fetchScan (s : State) : Fetched :=
  match scanWordAt s.pc with
  | none => .refuse (.positionOutsideProgram s.pc)
  | some w =>
    match decodeScan w with
    | .ok i => .run i s
    | .error _ => .refuse (.reservedScanWord w)

/-- What an unreset block does next. -/
def fetchRunning (s : State) : Fetched :=
  if s.halt then .idle s
  else
    match s.offered with
    | some w => fetchOffered w s
    | none => fetchScan s

/-- The start of a step, itself a moment at which `RST` can take effect. -/
def fetch (s : State) : Fetched :=
  match checkReset s with
  | .ok _ t => fetchRunning t
  | .error _ t => .reset t

/-- The position of a scan word in the scan program, 31 (no position) for a word that is not in it. -/
def positionOf (w : Byte) : BitVec 5 :=
  match Config.scanProgram.toList.findIdx? (fun v => v == w) with
  | some k => BitVec.ofNat 5 k
  | none => 31#5

/-- `s` with a table word where the next step fetches it: for a scan word the sequencer position at which the constant
scan program holds it (R110), for a sink word the message port. A halt, a reset pulse or another word at the port
would come first, so they are cleared. -/
def placeWord (s : State) (nbits w : Nat) : State :=
  let t := (s.setHalt false).setResets []
  match codeWordOfBits nbits w with
  | some (.scan b) => (t.setOffered none).setPc (positionOf b)
  | some (.sink b) => t.setOffered (some b)
  | none => (t.setOffered none).setPc 31#5

end Sys2Proof.Machine
end

