-- ==== Sys2Proof/Machine/Step.lean ====
section
/-! DEFINITION. One step: one scan operation (40_sequencer.md rule R111). -/

namespace Sys2Proof.Machine

/-- One step of the block. When `HALT` is 1 no operation starts and nothing changes until a reset (R22, R111). -/
def step (s : State) : Host.Outcome State Fault Refusal :=
  match fetch s with
  | .reset t => .next t.afterReset
  | .idle t => .next t
  | .run i t => exec i t
  | .refuse r => .refused r

/-- `s` with a table word stored where the next step fetches it. -/
def State.withFetchWord (s : State) (nbits w : Nat) : State := placeWord s nbits w

end Sys2Proof.Machine
end

