-- ==== Sys2Proof/Safety.lean ====
section
/-! DEFINITION. What a safe state and a legal message are, in the terms the claims use: the invariants of 10_state.md
rule R36 and what the operation rules add to them. -/

namespace Sys2Proof.Safety

open Sys2Proof.Machine

/-- R36: `PC` in 0..21. -/
abbrev PcInProgram (s : State) : Prop := s.pc.toNat ≤ 21

/-- R36, R201: between operations `CLK[c] = 0` and `LATCH[c] = 1` for every chain. -/
abbrev PinsIdle (s : State) : Prop :=
  ∀ c : Fin 3, fileGet s.clk c = false ∧ fileGet s.latch c = true

/-- R168: once a gate has been recorded as pressed, its reference is set ("the test `REF[j] != unset` is never false
when g is true"). -/
abbrev GateHasReference (s : State) : Prop :=
  ∀ j : Fin 2, fileGet s.gwp j = true → (fileGet s.ref j).isSome = true

/-- R203: what the stages and the outputs of an external register hold after a frame of byte b: output s is b[7 - s]. -/
abbrev frameStages (b : Byte) : Byte := b.reverse

/-- R36: whenever `REFRESH` has run since reset, the digits are `DISP[SHOWN]`; and the outputs of the three external
registers hold the frames of the two digits and of `IND` (R31, R184: every write of `IND` is sent at once). -/
def DisplayTrue (T : Config.Tables) (s : State) : Prop :=
  ∀ m : Mode, s.shown = some m →
    (s.digL, s.digR) = fileGet T.disp m ∧
    fileGet s.ext.qout chainLeft = frameStages (segLookup T s.digL.val) ∧
    fileGet s.ext.qout chainRight = frameStages (segLookup T s.digR.val) ∧
    fileGet s.ext.qout chainLed = frameStages s.ind

/-- R188: the mode shown is the mode or the one before it. -/
def LagAtMostOne (s : State) : Prop :=
  ∃ m : Mode, s.shown = some m ∧ (s.mode = m ∨ s.mode = nextMode m)

/-- R36, R115, R188: from the end of `REFRESH` to `MODEB` the shown mode is the mode; after `MODEB` it may be one
behind; before the first `REFRESH` none is shown. -/
def ModeShown (s : State) : Prop :=
  (s.pc = 0#5 → s.shown = none ∨ LagAtMostOne s) ∧
  (1 ≤ s.pc.toNat → s.pc.toNat ≤ 9 → s.shown = some s.mode) ∧
  (10 ≤ s.pc.toNat → LagAtMostOne s)

/-- What every step keeps. -/
structure Invariant (s : State) : Prop where
  pcInProgram : PcInProgram s
  pinsIdle    : PinsIdle s
  gateHasRef  : GateHasReference s
  display     : DisplayTrue Config.tables s
  modeShown   : ModeShown s

/-- A note of R94 that the guard of R126 lets out in mode m: `12 * m + k` of a key k, not of a gate key in mode 1. -/
def LegalNote (m : Mode) (note : Q) : Prop :=
  ∃ k : Key, ¬(m = 1 ∧ (k = 0 ∨ k = 3)) ∧ note.toNat = 12 * m.val + k.val

/-- The rows of R57 that can send in mode m, with the values each can carry. `CH0_CC[m]` may be any row's number. -/
def LegalControl (m : Mode) (ctrl val : Q) : Prop :=
  (m = 1 ∧ (ctrl = 1#7 ∨ ctrl = 30#7)) ∨
  (m ≠ 1 ∧ ctrl = fileGet Config.tables.ch0Cc m) ∨
  (2 ≤ ctrl.toNat ∧ ctrl.toNat ≤ 9) ∨
  (m = 2 ∧ ctrl = 10#7 ∧ (val = 127#7 ∨ val = 1#7))

/-- What a scan operation that starts in mode m can send (R57, R94, R216, R217). -/
def LegalMessage (m : Mode) : Msg → Prop
  | .noteOn note vel => LegalNote m note ∧ vel = Config.velOn
  | .noteOff note vel => LegalNote m note ∧ vel = Config.velOff
  | .cc ctrl val => LegalControl m ctrl val

/-- The messages of a stretch of trace, failed ones included, oldest first. -/
def messages : List Event → List Msg
  | [] => []
  | .emit m _ :: rest => m :: messages rest
  | .rdpin _ _ :: rest | .sample _ _ :: rest | .setsel _ :: rest | .delay _ :: rest | .shout _ _ :: rest => messages rest

/-- The frames of a stretch of trace, oldest first. -/
def frames : List Event → List (Fin 3 × Byte)
  | [] => []
  | .shout c b :: rest => (c, b) :: frames rest
  | .rdpin _ _ :: rest | .sample _ _ :: rest | .setsel _ :: rest | .delay _ :: rest | .emit _ _ :: rest => frames rest

/-- The least time one delay takes, in milliseconds (R290). -/
def waitMs : Wait → Nat
  | .settle => Config.settleMs
  | .loop => Config.loopMs

/-- The least time the delays of a stretch of trace take (R290). -/
def delayMs : List Event → Nat
  | [] => 0
  | .delay w :: rest => waitMs w + delayMs rest
  | .rdpin _ _ :: rest | .sample _ _ :: rest | .setsel _ :: rest | .shout _ _ :: rest | .emit _ _ :: rest => delayMs rest

/-- The moments at which a reset pulse can be taken in the transaction of one event (log entry 4): each of the 26 pin
writes of a frame, and one for every other transaction. -/
def momentsOf : Event → Nat
  | .shout _ _ => 26
  | .rdpin _ _ | .sample _ _ | .setsel _ | .delay _ | .emit _ _ => 1

/-- The moments of a stretch of trace. -/
def moments : List Event → Nat
  | [] => 0
  | e :: rest => momentsOf e + moments rest

/-- The events of a stretch of trace whose transactions have been made when n moments have passed. -/
def eventsBefore (n : Nat) : List Event → List Event
  | [] => []
  | e :: rest => if momentsOf e ≤ n then e :: eventsBefore (n - momentsOf e) rest else []

/-- Two states agree on every register of R20, which is all the block's state. -/
abbrev SameRegisters (s t : State) : Prop :=
  s.pc = t.pc ∧ s.halt = t.halt ∧ s.mode = t.mode ∧ s.shown = t.shown ∧ s.prev = t.prev ∧ s.last = t.last ∧
  s.acc = t.acc ∧ s.ref = t.ref ∧ s.gwp = t.gwp ∧ s.digL = t.digL ∧ s.digR = t.digR ∧ s.ind = t.ind ∧
  s.sel = t.sel ∧ s.data = t.data ∧ s.clk = t.clk ∧ s.latch = t.latch

end Sys2Proof.Safety
end

