-- ==== Sys2Proof/Certificates/Slice0/Obligations.lean ====
section
/-! DEFINITION. The statements for the provers, `Obligations.<Name>`, and before them the plain functions in which the
operation rules are stated: each writes a rule's pseudocode out as one record after another, with the rule's own
numbers. -/

namespace Sys2Proof.Claims

open Sys2Proof.Machine Sys2Proof.Safety

/-- No pulse of `RST` is coming. That the pulses stand in the state is the model's choice (log entry 4). -/
abbrev NoReset (s : State) : Prop := s.env.resets = []

/-- The block is running scan operations: not halted, and no word at the message port (log entry 5). -/
abbrev Scanning (s : State) : Prop := s.halt = false ∧ s.offered = none

/-- `PC <- PC + 1`. -/
def nextPosition (s : State) : State := { s with pc := s.pc + 1#5 }

/-- One `RDPIN(p)`: its answer is the coming one, and its event carries it. -/
def lineRead (p : Fin 11) (s : State) : State :=
  { s with env := { s.env with levels := s.env.levels.rest }, trace := s.trace ++ [.rdpin p s.levelNow] }

/-- `POLL(p)` (R125): one `RDPIN`, and the stored sample becomes its answer. -/
def polled (p : Fin 11) (s : State) : State :=
  { lineRead p s with prev := fileSet s.prev p s.levelNow }

/-- R125: the coming poll of p gives a press edge. -/
abbrev Pressing (p : Fin 11) (s : State) : Prop := fileGet s.prev p = high ∧ s.levelNow = low

/-- R125: the coming poll of p gives a release edge. -/
abbrev Releasing (p : Fin 11) (s : State) : Prop := fileGet s.prev p = low ∧ s.levelNow = high

/-- `r <- EMIT(m); if r == fail: halt(SinkFail)`, and `after` when the answer is `ok` (R215, R234): a failed send
leaves everything as the `EMIT` left it, with `HALT` set. -/
def sending (m : Msg) (s : State) (after : State → State) : State :=
  if s.failNow = true then
    { s with
      sinkMsg := some (encodeMsg m), env := { s.env with fails := s.env.fails.rest },
      trace := s.trace ++ [.emit m true], halt := true }
  else
    after
      { s with
        sinkMsg := some (encodeMsg m), env := { s.env with fails := s.env.fails.rest },
        trace := s.trace ++ [.emit m false] }

/-- `SHOUT(c, b)` as a whole: its pin writes (`FrameAtThePins` says which they are and what they do) and its one
event. -/
def framed (c : Fin 3) (b : Byte) (s : State) : State :=
  { runPins (frameWrites c b) s with trace := s.trace ++ [.shout c b] }

/-- `IND <- mask; SHOUT(2, IND)`. -/
def lit (mask : Byte) (s : State) : State := framed 2 mask { s with ind := mask }

/-- R181, `REFRESH`. -/
def refreshed (T : Config.Tables) (s : State) : State :=
  if s.shown = some s.mode then nextPosition s
  else
    let l := (fileGet T.disp s.mode).1
    let r := (fileGet T.disp s.mode).2
    let digits := framed 1 (segLookup T r.val) (framed 0 (segLookup T l.val) { s with digL := l, digR := r })
    nextPosition { lit (ledMask (fileGet T.modeLeds s.mode)) digits with shown := some s.mode }

/-- R126, `KEYk`. -/
def keyScanned (T : Config.Tables) (k : Fin 8) (s : State) : State :=
  let p := keyPin k
  let note : Q := BitVec.ofNat 7 (12 * s.mode.val + k.val)
  if s.mode = 1 ∧ (k = 0 ∨ k = 3) then nextPosition (polled p s)
  else if Pressing p s then
    sending (.noteOn note 127#7) (polled p s) fun t =>
      nextPosition
        (if s.mode = 0 ∨ s.mode = 3 ∨ s.mode = 4 then lit (1#8 <<< (fileGet T.keyLed k).val) t else t)
  else if Releasing p s then
    sending (.noteOff note 0#7) (polled p s) fun t =>
      nextPosition
        (if s.mode ≠ 1 ∧ s.mode ≠ 2 ∧ s.mode ≠ 5 ∧ s.mode ≠ 6 then lit 0x00#8 t else t)
  else nextPosition (polled p s)

/-- R130, `MODEB`. -/
def modeScanned (s : State) : State :=
  if Pressing 8 s then
    nextPosition { polled 8 s with mode := ⟨(s.mode.val + 1) % 7, Nat.mod_lt _ (by decide)⟩ }
  else nextPosition (polled 8 s)

/-- R131 and R132, `ENCL` with line 9 and value 127, `ENCR` with line 10 and value 1. -/
def encScanned (p : Fin 11) (val : Q) (s : State) : State :=
  if s.mode = 2 then
    if Pressing p s then sending (.cc 10#7 val) (polled p s) nextPosition
    else nextPosition (polled p s)
  else nextPosition s

/-- R148, `ACQUIRE(i)`: the raw sample it returns is `s.sampleNow`. -/
def acquired (i : Fin 7) (s : State) : State :=
  { s with
    sel := BitVec.ofNat 3 i.val
    env := { s.env with samples := s.env.samples.rest }
    trace := s.trace ++
      [.setsel (BitVec.ofNat 3 i.val), .delay .settle, .sample .amux s.sampleNow] }

/-- R149 to R151 after the sample: nothing when `LAST[c]` is the quantized value, else the message and the update. -/
def reported (c : Fin 9) (ctrl q : Q) (s : State) : State :=
  if fileGet s.last c = some q then nextPosition s
  else
    sending (.cc ctrl q) s fun t => nextPosition { t with last := fileSet t.last c (some q) }

/-- R149, `MUXi` for i in 1..6. -/
def muxScanned (i : Fin 7) (s : State) : State :=
  reported (muxChannel i) (BitVec.ofNat 7 (i.val + 1)) (quant s.sampleNow) (acquired i s)

/-- R151, `DIRj`. -/
def dirScanned (j : Fin 2) (s : State) : State :=
  reported (dirChannel j) (BitVec.ofNat 7 (8 + j.val)) (quant s.sampleNow)
    { s with
      env := { s.env with samples := s.env.samples.rest }
      trace := s.trace ++ [.sample (if j = 0 then .adir0 else .adir1) s.sampleNow] }

/-- R166, `DELTA(j, raw)`, with the gate line p and the controller number ctrl of R165, and `after` unless it halts. -/
def deltaScanned (j : Fin 2) (p : Fin 11) (ctrl : Q) (raw : Raw) (s : State) (after : State → State) : State :=
  if s.levelNow = low then
    let captured : Option Raw := if fileGet s.gwp j = false then some raw else fileGet s.ref j
    let t := { lineRead p s with ref := fileSet s.ref j captured }
    let recorded (u : State) : State := after { u with gwp := fileSet u.gwp j true }
    match captured with
    | none => recorded t
    | some r =>
      let d := deltaStep r raw
      let cand := clampQ ((fileGet s.acc j).toNat + d)
      if d = 0 ∨ cand = fileGet s.acc j then recorded t
      else
        sending (.cc ctrl cand) t fun u =>
          recorded { u with acc := fileSet u.acc j cand, ref := fileSet u.ref j (some raw) }
  else after { lineRead p s with gwp := fileSet s.gwp j false }

/-- R150, `MUX0`, with the two instances of R165 in mode 1. -/
def mux0Scanned (T : Config.Tables) (s : State) : State :=
  if s.mode = 1 then
    deltaScanned 0 0 1#7 s.sampleNow (acquired 0 s) fun t =>
      deltaScanned 1 3 30#7 s.sampleNow t nextPosition
  else reported 0 (fileGet T.ch0Cc s.mode) (quant s.sampleNow) (acquired 0 s)

/-- R114, `SLEEP`. -/
def slept (s : State) : State := { s with trace := s.trace ++ [.delay .loop], pc := 0#5 }

/-- R147: the first raw sample of each quantization step, T(0) = 0, T(n) = ceil((2n - 1) * 65535 / 254) for n in
1..127, T(128) = 65536. -/
def threshold (n : Nat) : Nat :=
  if n = 0 then 0 else if n ≤ 127 then ((2 * n - 1) * 65535 + 253) / 254 else 65536

/-- The reserved scan words as R84 lists them. -/
def ReservedScanWord (w : Nat) : Prop :=
  (0x01 ≤ w ∧ w ≤ 0x0F) ∨ (0x18 ≤ w ∧ w ≤ 0x1F) ∨ (0x21 ≤ w ∧ w ≤ 0x2F) ∨ (0x37 ≤ w ∧ w ≤ 0x3F) ∨
  (0x42 ≤ w ∧ w ≤ 0x4F) ∨ (0x52 ≤ w ∧ w ≤ 0x5F) ∨ (0x61 ≤ w ∧ w ≤ 0x6F) ∨ (0x70 ≤ w ∧ w ≤ 0xFF)

/-- The pins of R200's frame in order: the level low, eight times data and a clock pulse, the level high. -/
def frameOfR200 (c : Fin 3) (b : Byte) : List PinWrite :=
  [.latch c false,
   .data c (b.getLsbD 0), .clk c true, .clk c false, .data c (b.getLsbD 1), .clk c true, .clk c false,
   .data c (b.getLsbD 2), .clk c true, .clk c false, .data c (b.getLsbD 3), .clk c true, .clk c false,
   .data c (b.getLsbD 4), .clk c true, .clk c false, .data c (b.getLsbD 5), .clk c true, .clk c false,
   .data c (b.getLsbD 6), .clk c true, .clk c false, .data c (b.getLsbD 7), .clk c true, .clk c false,
   .latch c true]

/-- The same state with other pulses of `RST` coming (log entry 4). -/
def withPulses (rs : List Nat) (s : State) : State := { s with env := { s.env with resets := rs } }

/-- The state after `n` steps, when they all answer one. -/
abbrev After (n : Nat) (s t : State) : Prop := Sys2Proof.core.run n s = .next t

end Sys2Proof.Claims

open Sys2Proof Sys2Proof.Machine Sys2Proof.Safety Sys2Proof.Claims

/-! ## Encodings -/

/-- R81, R86: decoding the encoding of any well-formed instruction gives it back, with every operand. -/
def Obligations.DecodeOfEncode : Prop :=
  ∀ i : Instr, i.wf = true → decode (encode i) = .ok i

/-- R81, R86: a word has one meaning: whatever a word of either format decodes to encodes to that word. -/
def Obligations.EncodeOfDecode : Prop :=
  ∀ (w : CodeWord) (i : Instr), decode w = .ok i → encode i = w

/-- R81 and section 2.11 of 95_test_vectors.md: words written out from the tables decode to their operations. -/
def Obligations.WordsOfTheTables : Prop :=
  decodeScan 0x00#8 = .ok .refresh ∧ decodeScan 0x13#8 = .ok .key3 ∧ decodeScan 0x17#8 = .ok .key7 ∧
  decodeScan 0x20#8 = .ok .modeb ∧ decodeScan 0x30#8 = .ok .mux0 ∧ decodeScan 0x36#8 = .ok .mux6 ∧
  decodeScan 0x41#8 = .ok .dir1 ∧ decodeScan 0x50#8 = .ok .encl ∧ decodeScan 0x51#8 = .ok .encr ∧
  decodeScan 0x60#8 = .ok .sleep ∧
  decodeSink 0x0EFF#16 = .ok (.noteOn 29#7 127#7) ∧ decodeSink 0x4E80#16 = .ok (.noteOff 29#7 0#7) ∧
  decodeSink 0x80D3#16 = .ok (.cc 1#7 83#7)

/-- R84: exactly the listed scan words are refused, by name; a scan program that holds one is refused; the block's own
holds none. The codes are the spec's decision D5. -/
def Obligations.ReservedScanWordsRefused : Prop :=
  (∀ w : Byte, decodeScan w = .error (.reservedScan w) ↔ ReservedScanWord w.toNat) ∧
  (∀ p : List Byte, scanProgramLegal p = false ↔ ∃ w ∈ p, ReservedScanWord w.toNat) ∧
  scanProgramLegal Config.scanProgram.toList = true

/-- R86: the fields of a sink word, as numbers, and kind 3 refused. The packing is the spec's decision D5. -/
def Obligations.SinkWordFields : Prop :=
  (∀ a b : Q,
    (encodeMsg (.noteOn a b)).toNat = 0x0000 + a.toNat * 128 + b.toNat ∧
    (encodeMsg (.noteOff a b)).toNat = 0x4000 + a.toNat * 128 + b.toNat ∧
    (encodeMsg (.cc a b)).toNat = 0x8000 + a.toNat * 128 + b.toNat) ∧
  (∀ w : SinkWord, decodeSink w = .error (.reservedSink w) ↔ 0xC000 ≤ w.toNat)

/-! ## The step -/

/-- R110, R111: the scan program is the words of `ITER` in order, and a running block's step runs the operation that
the word at `PC` decodes to, nothing added. -/
def Obligations.StepRunsTheWordAtPc : Prop :=
  Config.scanProgram.toList.map CodeWord.scan = iter.map encode ∧
  ∀ (s : State) (w : Byte) (i : Instr),
    NoReset s → Scanning s → Config.scanProgram.toList[s.pc.toNat]? = some w → decodeScan w = .ok i →
    step s = exec i s

/-- The model's own (log entry 5): a word put to the message port is the next transaction, and is gone after it. -/
def Obligations.StepRunsTheOfferedMessage : Prop :=
  ∀ (s : State) (w : SinkWord) (i : Instr),
    NoReset s → s.halt = false → s.offered = some w → decodeSink w = .ok i →
    step s = exec i { s with offered := none }

/-- R22: a halted block changes nothing, step after step, until a reset pulse, which clears `HALT`; `HALT` is 0 after
reset, and a step sets it exactly when its last event is a failed send. That a halted block has a step, and that the
step answers the same state, is the model's choice (log entry 6); so is that the pulses stand in the state (log
entry 4). -/
def Obligations.HaltedUntilReset : Prop :=
  State.reset.halt = false ∧
  (∀ s : State, s.halt = true → NoReset s → step s = .next s) ∧
  (∀ s t : State, s.halt = true → step s = .next t →
    t.trace = s.trace ∧
      ((t.halt = true ∧ SameRegisters t s ∧ t.ext = s.ext) ∨ (t.halt = false ∧ SameRegisters t State.reset))) ∧
  (∀ s t : State, s.halt = false → step s = .next t →
    (t.halt = true ↔ ∃ (events : List Event) (m : Msg), t.trace = s.trace ++ events ++ [.emit m true]))

/-- R112: a scan operation moves `PC` on by one, `SLEEP` back to 0, and a failed send leaves it at the failing
operation's index. -/
def Obligations.SequencingOfSteps : Prop :=
  ∀ s t : State, NoReset s → Scanning s → step s = .next t →
    t.pc = if t.halt = true then s.pc else if s.pc = 21#5 then 0#5 else s.pc + 1#5

/-- R53, R231: whatever the environment answers, a running block whose `PC` is in 0..21 has a next state. The other
cases are the model's choice and no rule's: a next state under a coming reset pulse (log entry 4), for a legal word at
the message port (log entry 5), and for a halted block, of which R111 says that there is no step (log entry 6). -/
def Obligations.StepAlwaysGoesOn : Prop :=
  ∀ s : State, PcInProgram s → (∀ w, s.offered = some w → sinkWordLegal w = true) → ∃ t, step s = .next t

/-- R261: the reset value of every register, where the source is silent the spec's decisions D4 and D6 to D10. -/
def Obligations.ResetRegisterValues : Prop :=
  State.reset.pc = 0#5 ∧ State.reset.halt = false ∧ State.reset.mode = 0 ∧ State.reset.shown = none ∧
  (∀ p : Fin 11, fileGet State.reset.prev p = high) ∧ (∀ c : Fin 9, fileGet State.reset.last c = none) ∧
  (∀ j : Fin 2, fileGet State.reset.acc j = 64#7 ∧ fileGet State.reset.ref j = none ∧
    fileGet State.reset.gwp j = false) ∧
  State.reset.digL = 16 ∧ State.reset.digR = 16 ∧ State.reset.ind = 0#8 ∧ State.reset.sel = 0#3 ∧
  (∀ c : Fin 3, fileGet State.reset.data c = false ∧ fileGet State.reset.clk c = false ∧
    fileGet State.reset.latch c = true)

/-- R260: a reset pulse due at a step's start gives every register its reset value, halted or not. One that comes
inside an instruction, at a moment the instruction passes when no pulse comes, abandons it where it stands with the
same registers and with the events of the transactions made before it; a later one is that many moments nearer when
the instruction ends. A step passes one moment before its instruction, and the step after a reset is `REFRESH`. That
pulses stand in the state, and at which moments they are taken, is the model's choice (log entry 4), and so is that an
abandoned frame has no event (log entry 12). -/
def Obligations.ResetRestoresEveryRegister : Prop :=
  (∀ (s : State) (later : List Nat), s.env.resets = 0 :: later →
    ∃ t, step s = .next t ∧ SameRegisters t State.reset ∧ t.trace = s.trace ∧ t.offered = none ∧
      t.env = { s.env with resets := later }) ∧
  (∀ (i : Instr) (s : State) (n : Nat) (later : List Nat), s.env.resets = n :: later →
    ∃ u events, exec i (withPulses [] s) = .next u ∧ u.trace = s.trace ++ events ∧
      if n < moments events then
        ∃ t, exec i s = .next t ∧ SameRegisters t State.reset ∧ t.trace = s.trace ++ eventsBefore n events ∧
          t.offered = none ∧ t.env.resets = later
      else exec i s = .next (withPulses ((n - moments events) :: later) u)) ∧
  (∀ (s : State) (w : Byte) (i : Instr) (n : Nat) (later : List Nat), s.env.resets = (n + 1) :: later →
    Scanning s → Config.scanProgram.toList[s.pc.toNat]? = some w → decodeScan w = .ok i →
    step s = exec i (withPulses (n :: later) s)) ∧
  (∀ t : State, SameRegisters t State.reset → t.offered = none → NoReset t → step t = exec .refresh t)

/-- R36, R168, R188, R201, R203: every step, from any state that meets the invariant, keeps it, whatever the
environment answers, a failed send and a reset pulse included. What the external registers do, also when a pulse
abandons a frame, and that the pulses stand in the state rest on log entries 8, 9 and 4. -/
def Obligations.StepKeepsInvariant : Prop :=
  ∀ s t : State, Invariant s → step s = .next t → Invariant t

/-- R36: the reset state meets the invariant. -/
def Obligations.ResetMeetsInvariant : Prop := Invariant State.reset

/-- R115: 22 steps from `PC = 0` bring a running block to `PC = 0` again, or to a halt. That the steps after a halt
still answer a state is the model's choice (log entry 6). -/
def Obligations.IterationReturnsToStart : Prop :=
  ∀ s : State, NoReset s → Scanning s → s.pc = 0#5 →
    ∃ t, After 22 s t ∧ (t.halt = true ∨ (Scanning t ∧ t.pc = 0#5))

/-- R219: no iteration sends more than 19 messages. -/
def Obligations.AtMostNineteenMessages : Prop :=
  ∀ s t : State, NoReset s → Scanning s → s.pc = 0#5 → After 22 s t →
    ∃ events, t.trace = s.trace ++ events ∧ (messages events).length ≤ 19

/-- R290: the delays of a whole iteration, seven settle delays and one loop delay, take at least 24 ms. -/
def Obligations.IterationWaits : Prop :=
  ∀ s t : State, NoReset s → Scanning s → s.pc = 0#5 → After 22 s t → t.halt = false →
    ∃ events, t.trace = s.trace ++ events ∧ events.count (.delay .settle) = 7 ∧ events.count (.delay .loop) = 1 ∧
      delayMs events = 24

/-- R57, R87, R94, R128, R216, R217: a step only adds events, and every message a scan operation sends is a note
`12 * MODE + k` that the guard of mode 1 lets out, with velocity 127 on and 0 off, or on a row of R57 that sends in the
mode, controller 10 with its two values only. `MODE` is the mode in which the step starts. Reset pulses are included,
which stand in the state by the model's choice (log entry 4). -/
def Obligations.OnlyLegalMessagesLeave : Prop :=
  ∀ s t : State, s.offered = none → step s = .next t →
    ∃ events, t.trace = s.trace ++ events ∧ ∀ m ∈ messages events, LegalMessage s.mode m

/-- R180: the transition table, the initial state, seven presses that return the mode, and the one trigger: with no
reset, a step changes `MODE` exactly when it is `MODEB`'s and the mode button's poll is a press edge, and then to
`(MODE + 1) mod 7`. -/
def Obligations.ModeChangesOnlyOnPress : Prop :=
  State.reset.mode = 0 ∧
  (nextMode 0 = 1 ∧ nextMode 1 = 2 ∧ nextMode 2 = 3 ∧ nextMode 3 = 4 ∧ nextMode 4 = 5 ∧ nextMode 5 = 6 ∧
    nextMode 6 = 0) ∧
  (∀ m : Fin 7, (nextMode m).val = (m.val + 1) % 7 ∧
    nextMode (nextMode (nextMode (nextMode (nextMode (nextMode (nextMode m)))))) = m) ∧
  ∀ s t : State, NoReset s → step s = .next t →
    t.mode = if Scanning s ∧ s.pc = 9#5 ∧ Pressing 8 s then nextMode s.mode else s.mode

/-! ## The operations -/

/-- R181: `REFRESH`, its word and position, and its whole effect; the order of the frames is the spec's decision D16. -/
def Obligations.RefreshRule : Prop :=
  encode .refresh = .scan 0x00#8 ∧ Config.scanProgram[0] = 0x00#8 ∧
  ∀ s : State, NoReset s → exec .refresh s = .next (refreshed Config.tables s)

/-- R126: `KEYk`, its word and position, and its whole effect: the poll, the guard, the messages, the indicator, the
halt; message before indicator is the spec's decision D17. -/
def Obligations.KeyRule : Prop :=
  ∀ k : Fin 8,
    encode (.key k) = .scan (BitVec.ofNat 8 (0x10 + k.val)) ∧
    Config.scanProgram.toList[1 + k.val]? = some (BitVec.ofNat 8 (0x10 + k.val)) ∧
    ∀ s : State, NoReset s → exec (.key k) s = .next (keyScanned Config.tables k s)

/-- R130: `MODEB`, its word and position, and its whole effect. -/
def Obligations.ModeButtonRule : Prop :=
  encode .modeb = .scan 0x20#8 ∧ Config.scanProgram[9] = 0x20#8 ∧
  ∀ s : State, NoReset s → exec .modeb s = .next (modeScanned s)

/-- R131, R132: `ENCL` and `ENCR`, their words and positions, and their whole effect. -/
def Obligations.EncoderRules : Prop :=
  encode .encl = .scan 0x50#8 ∧ Config.scanProgram[19] = 0x50#8 ∧
  encode .encr = .scan 0x51#8 ∧ Config.scanProgram[20] = 0x51#8 ∧
  ∀ s : State, NoReset s →
    exec .encl s = .next (encScanned 9 127#7 s) ∧ exec .encr s = .next (encScanned 10 1#7 s)

/-- R148, R150, R165, R166: `MUX0`, its word and position, and its whole effect: outside mode 1 the quantized channel,
in mode 1 the two delta instances, their pairing and order the spec's decision D14. -/
def Obligations.Mux0Rule : Prop :=
  encode .mux0 = .scan 0x30#8 ∧ Config.scanProgram[10] = 0x30#8 ∧
  ∀ s : State, NoReset s → exec .mux0 s = .next (mux0Scanned Config.tables s)

/-- R148, R149: `MUXi`, i in 1..6, its word and position, and its whole effect. -/
def Obligations.MuxRule : Prop :=
  ∀ i : Fin 7, i ≠ 0 →
    encode (.mux i) = .scan (BitVec.ofNat 8 (0x30 + i.val)) ∧
    Config.scanProgram.toList[10 + i.val]? = some (BitVec.ofNat 8 (0x30 + i.val)) ∧
    ∀ s : State, NoReset s → exec (.mux i) s = .next (muxScanned i s)

/-- R151: `DIRj`, its word and position, and its whole effect; no delay before the sample is the spec's decision D12. -/
def Obligations.DirectRule : Prop :=
  ∀ j : Fin 2,
    encode (.dir j) = .scan (BitVec.ofNat 8 (0x40 + j.val)) ∧
    Config.scanProgram.toList[17 + j.val]? = some (BitVec.ofNat 8 (0x40 + j.val)) ∧
    ∀ s : State, NoReset s → exec (.dir j) s = .next (dirScanned j s)

/-- R114: `SLEEP`, its word and position, and its whole effect: the delay event, `PC <- 0`, nothing else. -/
def Obligations.SleepRule : Prop :=
  encode .sleep = .scan 0x60#8 ∧ Config.scanProgram[21] = 0x60#8 ∧
  ∀ s : State, NoReset s → exec .sleep s = .next (slept s)

/-- R215: `EMIT(msg)` puts the message's word (R86) on `SINK_MSG` and its result is `SINK_FAIL`'s level, `fail` for 1;
it does not wait, and a caller's send halts on `fail` and goes on from the same state on `ok` (decision D19). -/
def Obligations.EmitRule : Prop :=
  ∀ (m : Msg) (s : State), NoReset s →
    let t : State :=
      { s with
        sinkMsg := some (encodeMsg m), env := { s.env with fails := s.env.fails.rest },
        trace := s.trace ++ [.emit m s.failNow] }
    emit m s = .ok s.failNow t ∧
    runOp (send m) s = .next (if s.failNow = true then { t with halt := true } else t)

/-- The model's own (log entry 5) over R215: a message word run as an instruction is one such transaction of the message
port; no register but `HALT` changes, `PC` included. -/
def Obligations.MessageRule : Prop :=
  ∀ (a b : Q) (s : State), NoReset s →
    exec (.noteOn a b) s = .next (sending (.noteOn a b) s id) ∧
    exec (.noteOff a b) s = .next (sending (.noteOff a b) s id) ∧
    exec (.cc a b) s = .next (sending (.cc a b) s id)

/-! ## What only some operations write (R23 to R33) -/

/-- R23, R24, R30 to R33: which operations change the control registers, the shadows, the selector and the pins; every
other operation leaves them. The last two clauses are the model's choice (log entry 5), no rule's: no instruction
changes the word at the message port, and a message word run as an instruction leaves `PC`. -/
def Obligations.ControlRegistersWrittenOnlyBy : Prop :=
  ∀ (i : Instr) (s t : State), NoReset s → exec i s = .next t →
    (i ≠ .modeb → t.mode = s.mode) ∧
    (i ≠ .refresh → t.shown = s.shown ∧ t.digL = s.digL ∧ t.digR = s.digR) ∧
    (i ≠ .refresh → (∀ k, i ≠ .key k) →
      t.ind = s.ind ∧ t.data = s.data ∧ t.clk = s.clk ∧ t.latch = s.latch ∧ t.ext = s.ext) ∧
    ((∀ k, i ≠ .mux k) → t.sel = s.sel) ∧
    t.offered = s.offered ∧
    ((∃ m, i = Instr.ofMsg m) → t.pc = s.pc)

/-- R25 to R29: which operations change which entry of the per-input, per-channel and delta files. -/
def Obligations.FilesWrittenOnlyBy : Prop :=
  ∀ (i : Instr) (s t : State), NoReset s → exec i s = .next t →
    (∀ p : Fin 11, fileGet t.prev p ≠ fileGet s.prev p →
      (∃ k, i = .key k ∧ p = keyPin k) ∨ (i = .modeb ∧ p = 8) ∨ (∃ e, i = .enc e ∧ p = encPin e ∧ s.mode = 2)) ∧
    (∀ c : Fin 9, fileGet t.last c ≠ fileGet s.last c →
      (∃ k, i = .mux k ∧ c = muxChannel k ∧ (k = 0 → s.mode ≠ 1)) ∨ (∃ j, i = .dir j ∧ c = dirChannel j)) ∧
    (i ≠ .mux0 ∨ s.mode ≠ 1 → t.acc = s.acc ∧ t.ref = s.ref ∧ t.gwp = s.gwp)

/-! ## Consequences -/

/-- S4, R128: in mode 1 keys 0 and 3 send nothing and light nothing, whatever their edges, and their samples are still
stored. -/
def Obligations.GateKeysSilentInModeOne : Prop :=
  ∀ (k : Fin 8) (s : State), k = 0 ∨ k = 3 → s.mode = 1 → NoReset s →
    ∃ t, exec (.key k) s = .next t ∧ fileGet t.prev (keyPin k) = s.levelNow ∧
      t.trace = s.trace ++ [.rdpin (keyPin k) s.levelNow] ∧ t.sinkMsg = s.sinkMsg ∧ t.ind = s.ind ∧
      t.ext = s.ext ∧ t.halt = s.halt

/-- R234 on a key: a failed `NoteOn` leaves the poll done, and the indicator, its frame and `PC` as they were. -/
def Obligations.FailedNoteOnHalts : Prop :=
  ∀ (k : Fin 8) (s : State), NoReset s → ¬(s.mode = 1 ∧ (k = 0 ∨ k = 3)) → Pressing (keyPin k) s →
    s.failNow = true →
    ∃ t, exec (.key k) s = .next t ∧ t.halt = true ∧ t.pc = s.pc ∧ fileGet t.prev (keyPin k) = low ∧
      t.ind = s.ind ∧ t.data = s.data ∧ t.clk = s.clk ∧ t.latch = s.latch ∧ t.ext = s.ext ∧
      frames t.trace = frames s.trace ∧ t.last = s.last ∧ t.mode = s.mode

/-- R234 on a channel: a failed `CC` leaves the selector written, and `LAST` and `PC` as they were. -/
def Obligations.FailedChannelSendHalts : Prop :=
  ∀ (i : Fin 7) (s : State), i ≠ 0 → NoReset s → fileGet s.last (muxChannel i) ≠ some (quant s.sampleNow) →
    s.failNow = true →
    ∃ t, exec (.mux i) s = .next t ∧ t.halt = true ∧ t.pc = s.pc ∧ t.last = s.last ∧ t.sel.toNat = i.val

/-- S2, R152: once an unfailed scan of a channel has run, a second scan of it that quantizes to the same value sends
nothing and changes no `LAST`, for the six channels i in 1..6, channel 0 outside mode 1, and the direct channels. -/
def Obligations.NoDuplicateReports : Prop :=
  ∀ (i : Instr) (s t u : State),
    ((∃ k, k ≠ 0 ∧ i = .mux k) ∨ (∃ j, i = .dir j) ∨ (i = .mux0 ∧ s.mode ≠ 1 ∧ u.mode ≠ 1)) →
    NoReset s → NoReset u → s.halt = false → exec i s = .next t → t.halt = false →
    u.last = t.last → quant u.sampleNow = quant s.sampleNow →
    ∃ v, exec i u = .next v ∧ messages v.trace = messages u.trace ∧ v.last = u.last ∧ v.halt = u.halt

/-- R149, R151: channels 1 to 8 do the same in every mode. -/
def Obligations.ChannelsIgnoreTheMode : Prop :=
  ∀ (i : Instr) (m : Fin 7) (s t : State), (∃ k, k ≠ 0 ∧ i = .mux k) ∨ (∃ j, i = .dir j) → NoReset s →
    exec i s = .next t → exec i { s with mode := m } = .next { t with mode := m }

/-- R30: `DIGL` and `DIGR` are read by nothing: two states that differ in them only do the same. -/
def Obligations.DigitsAreShadows : Prop :=
  ∀ (i : Instr) (l r : Fin 17) (s t : State), NoReset s → exec i s = .next t →
    ∃ l' r', exec i { s with digL := l, digR := r } = .next { t with digL := l', digR := r' }

/-- R262, R263: reset itself sends nothing; the first step after it writes the mode-0 digits and pattern in three
frames and sends no message. -/
def Obligations.FirstStepShowsModeZero : Prop :=
  State.reset.trace = [] ∧
  ∃ t, step State.reset = .next t ∧ t.shown = some 0 ∧ t.pc = 1#5 ∧ t.halt = false ∧
    t.trace =
      [.shout 0 (segLookup Config.tables (fileGet Config.tables.disp 0).1.val),
       .shout 1 (segLookup Config.tables (fileGet Config.tables.disp 0).2.val),
       .shout 2 (ledMask (fileGet Config.tables.modeLeds 0))]

/-! ## The functions -/

/-- R145: the quantizer is the source's formula over the rationals. -/
def Obligations.QuantizerFormula : Prop :=
  ∀ raw : Raw,
    ((quant raw).toNat : ℤ) = max 0 (min 127 (127 - round ((raw.toNat : ℚ) / 65535 * 127)))

/-- R147: range, order, the thresholds, how many inputs each output has, and the table. -/
def Obligations.QuantizerProperties : Prop :=
  (∀ raw : Raw, (quant raw).toNat ≤ 127) ∧
  (∀ a b : Raw, a.toNat ≤ b.toNat → (quant b).toNat ≤ (quant a).toNat) ∧
  (∀ (raw : Raw) (n : Nat), n ≤ 127 →
    ((quant raw).toNat = 127 - n ↔ threshold n ≤ raw.toNat ∧ raw.toNat < threshold (n + 1))) ∧
  (threshold 1 = 259 ∧ threshold 2 = 775 ∧ threshold 3 = 1291 ∧ threshold 63 = 32252 ∧ threshold 64 = 32768 ∧
    threshold 126 = 64761 ∧ threshold 127 = 65277) ∧
  (threshold 1 - threshold 0 = 259 ∧ threshold 128 - threshold 127 = 259 ∧
    ∀ n, 1 ≤ n → n ≤ 126 → threshold (n + 1) - threshold n = 516 ∨ threshold (n + 1) - threshold n = 517) ∧
  (∀ p ∈ ([(0, 127), (258, 127), (259, 126), (774, 126), (775, 125), (16384, 95), (30000, 69), (32767, 64),
      (32768, 63), (40000, 49), (49152, 32), (64760, 2), (64761, 1), (65276, 1), (65277, 0), (65535, 0)] :
      List (Nat × Nat)), (quant (BitVec.ofNat 16 p.1)).toNat = p.2)

/-- R167: the step is the floor of the exact quotient, with its table: difference 512n to 512n + 511 gives n; its
range and the candidate's; and the candidate clamped to 0..127. -/
def Obligations.DeltaArithmetic : Prop :=
  (∀ ref raw : Raw,
    deltaStep ref raw = ⌊((ref.toNat : ℚ) - (raw.toNat : ℚ)) / 512⌋ ∧
    -128 ≤ deltaStep ref raw ∧ deltaStep ref raw ≤ 127 ∧
    (∀ acc : Q, -128 ≤ (acc.toNat : ℤ) + deltaStep ref raw ∧ (acc.toNat : ℤ) + deltaStep ref raw ≤ 254) ∧
    ∀ n : ℤ, deltaStep ref raw = n ↔
      512 * n ≤ (ref.toNat : ℤ) - raw.toNat ∧ (ref.toNat : ℤ) - raw.toNat ≤ 512 * n + 511) ∧
  ∀ v : ℤ, ((clampQ v).toNat : ℤ) = max 0 (min 127 v)

/-- S6, R168: after a `MUX0` in mode 1 that moved accumulator j, a second one with the same sample and the gate still
held does not move it and sends nothing on its controller. -/
def Obligations.DeltaRebaselines : Prop :=
  ∀ (j : Fin 2) (s t u v : State), NoReset s → NoReset u → s.mode = 1 → u.mode = 1 →
    exec .mux0 s = .next t → fileGet t.acc j ≠ fileGet s.acc j → u.acc = t.acc → u.ref = t.ref → u.gwp = t.gwp →
    u.sampleNow = s.sampleNow → exec .mux0 u = .next v →
    fileGet v.acc j = fileGet u.acc j ∧
      ∃ events, v.trace = u.trace ++ events ∧ ∀ val, Msg.cc (if j = 0 then 1#7 else 30#7) val ∉ messages events

/-- R168: a gate that is seen held for the first time captures the sample and sends nothing. -/
def Obligations.RisingGateCapturesSilently : Prop :=
  ∀ s : State, NoReset s → s.mode = 1 → fileGet s.gwp 0 = false → fileGet s.gwp 1 = false →
    ∃ t, exec .mux0 s = .next t ∧ t.acc = s.acc ∧ t.sinkMsg = s.sinkMsg ∧ messages t.trace = messages s.trace ∧
      fileGet t.gwp 0 = decide (s.levelNow = low) ∧
      (fileGet t.gwp 0 = true → fileGet t.ref 0 = some s.sampleNow) ∧
      (fileGet t.gwp 1 = true → fileGet t.ref 1 = some s.sampleNow) ∧
      t.last = s.last ∧ t.halt = s.halt

/-- R183, R186: bit i of the mask is 1 exactly when i is in the set, for i in 0..7; a set of indices outside 0..7,
the idle pattern among them, gives the empty mask. -/
def Obligations.LedMaskBits : Prop :=
  (∀ (S : List Nat) (i : Nat), i ≤ 7 → ((ledMask S).getLsbD i = true ↔ i ∈ S)) ∧
  ledMask [8] = 0x00#8 ∧
  ∀ S : List Nat, (∀ i ∈ S, 7 < i) → ledMask S = 0x00#8

/-- R182: the pattern of every digit, the blank one for a value with none. -/
def Obligations.SegmentLookup : Prop :=
  ∀ (T : Config.Tables) (d : Nat),
    segLookup T d = if h : d ≤ 16 then T.seg7[d]'(Nat.lt_succ_of_le h) else T.seg7[16]

/-! ## The shift chains -/

/-- R200, R201: `SHOUT` makes exactly the 26 pin writes, in order, and its one event; afterwards the clock is low, the
latch high and the data line holds bit 7; no pin of another chain and no register but the pins moves. The clock's idle
level and its sampling edge are the spec's decision D10. -/
def Obligations.FrameAtThePins : Prop :=
  ∀ (c : Fin 3) (b : Byte) (s : State),
    frameWrites c b = frameOfR200 c b ∧ (frameWrites c b).length = 26 ∧
    (NoReset s → shout c b s = .ok () (framed c b s)) ∧
    framed c b s =
      { s with
        data := fileSet s.data c (b.getLsbD 7), clk := fileSet s.clk c false, latch := fileSet s.latch c true,
        ext := (framed c b s).ext, trace := s.trace ++ [.shout c b] } ∧
    ∀ c' : Fin 3, c' ≠ c →
      fileGet (framed c b s).ext.sr c' = fileGet s.ext.sr c' ∧
      fileGet (framed c b s).ext.qout c' = fileGet s.ext.qout c'

/-- R203: after a frame on a chain whose clock idles low, stage s and output s of the external register hold bit
7 - s of the byte. The register's behaviour is the spec's general knowledge (U9, log entry 8). -/
def Obligations.FrameFillsTheRegister : Prop :=
  ∀ (c : Fin 3) (b : Byte) (s : State), fileGet s.clk c = false →
    ∀ i : Fin 8,
      (fileGet (framed c b s).ext.sr c).getLsbD i.val = b.getLsbD (7 - i.val) ∧
      (fileGet (framed c b s).ext.qout c).getLsbD i.val = b.getLsbD (7 - i.val)

/-- R61, R204: while a frame is being sent the outputs of every chain stay as they were; they change at its last
write. The external registers behave as log entry 8 says. -/
def Obligations.OutputsChangeOnlyAtTheLatch : Prop :=
  ∀ (c : Fin 3) (b : Byte) (s : State) (n : Nat), n < 26 →
    (runPins ((frameWrites c b).take n) s).ext.qout = s.ext.qout
end

