-- ==== Sys2Proof/Laws/State.lean ====
section
/-! SUPPORT. One lemma per field per update of State, each true by rfl; the laws of a register file and of a feed of
answers. -/

namespace Sys2Proof

/-! ## Register files -/

@[simp] theorem fileGet_fileSet_same {α : Type} {n : Nat} (file : Vector α n) (i : Fin n) (v : α) :
    fileGet (fileSet file i v) i = v := by
  simp [fileGet, fileSet]

theorem fileGet_fileSet_ne {α : Type} {n : Nat} (file : Vector α n) {i j : Fin n} (v : α) (h : i ≠ j) :
    fileGet (fileSet file i v) j = fileGet file j := by
  have : i.val ≠ j.val := fun e => h (Fin.ext e)
  simp [fileGet, fileSet, this]

/-- One form for both cases, so that a proof need not split first. -/
theorem fileGet_fileSet {α : Type} {n : Nat} (file : Vector α n) (i j : Fin n) (v : α) :
    fileGet (fileSet file i v) j = if i = j then v else fileGet file j := by
  split
  · next h => subst h; simp
  · next h => exact fileGet_fileSet_ne file v h

@[simp] theorem fileSet_fileSet_same {α : Type} {n : Nat} (file : Vector α n) (i : Fin n) (v w : α) :
    fileSet (fileSet file i v) i w = fileSet file i w := by
  simp [fileSet]

@[simp] theorem fileSet_fileGet {α : Type} {n : Nat} (file : Vector α n) (i : Fin n) :
    fileSet file i (fileGet file i) = file := by
  simp [fileSet, fileGet]

theorem file_ext {α : Type} {n : Nat} {a b : Vector α n} (h : ∀ i : Fin n, fileGet a i = fileGet b i) : a = b := by
  apply Vector.ext
  intro i hi
  exact h ⟨i, hi⟩

@[simp] theorem fileGet_replicate {α : Type} {n : Nat} (v : α) (i : Fin n) :
    fileGet (Vector.replicate n v) i = v := by
  simp [fileGet]

@[simp] theorem fileGet_ofFn {α : Type} {n : Nat} (f : Fin n → α) (i : Fin n) :
    fileGet (Vector.ofFn f) i = f i := by
  simp [fileGet]

namespace Machine

/-! ## Feeds -/

@[simp] theorem Feed.now_cons {α : Type} (free : Nat → α) (a : α) (q : List α) (n : Nat) :
    Feed.now free { queue := a :: q, asked := n } = a := rfl

@[simp] theorem Feed.now_nil {α : Type} (free : Nat → α) (n : Nat) :
    Feed.now free { queue := [], asked := n } = free n := rfl

@[simp] theorem Feed.rest_cons {α : Type} (a : α) (q : List α) (n : Nat) :
    Feed.rest { queue := a :: q, asked := n } = { queue := q, asked := n + 1 } := rfl

namespace State

variable (s : State)

/-! ### setPc -/

@[simp] theorem setPc_pc (v : BitVec 5) : (s.setPc v).pc = v := rfl
@[simp] theorem setPc_halt (v : BitVec 5) : (s.setPc v).halt = s.halt := rfl
@[simp] theorem setPc_mode (v : BitVec 5) : (s.setPc v).mode = s.mode := rfl
@[simp] theorem setPc_shown (v : BitVec 5) : (s.setPc v).shown = s.shown := rfl
@[simp] theorem setPc_prev (v : BitVec 5) : (s.setPc v).prev = s.prev := rfl
@[simp] theorem setPc_last (v : BitVec 5) : (s.setPc v).last = s.last := rfl
@[simp] theorem setPc_acc (v : BitVec 5) : (s.setPc v).acc = s.acc := rfl
@[simp] theorem setPc_ref (v : BitVec 5) : (s.setPc v).ref = s.ref := rfl
@[simp] theorem setPc_gwp (v : BitVec 5) : (s.setPc v).gwp = s.gwp := rfl
@[simp] theorem setPc_digL (v : BitVec 5) : (s.setPc v).digL = s.digL := rfl
@[simp] theorem setPc_digR (v : BitVec 5) : (s.setPc v).digR = s.digR := rfl
@[simp] theorem setPc_ind (v : BitVec 5) : (s.setPc v).ind = s.ind := rfl
@[simp] theorem setPc_sel (v : BitVec 5) : (s.setPc v).sel = s.sel := rfl
@[simp] theorem setPc_data (v : BitVec 5) : (s.setPc v).data = s.data := rfl
@[simp] theorem setPc_clk (v : BitVec 5) : (s.setPc v).clk = s.clk := rfl
@[simp] theorem setPc_latch (v : BitVec 5) : (s.setPc v).latch = s.latch := rfl
@[simp] theorem setPc_ext (v : BitVec 5) : (s.setPc v).ext = s.ext := rfl
@[simp] theorem setPc_sinkMsg (v : BitVec 5) : (s.setPc v).sinkMsg = s.sinkMsg := rfl
@[simp] theorem setPc_trace (v : BitVec 5) : (s.setPc v).trace = s.trace := rfl
@[simp] theorem setPc_env (v : BitVec 5) : (s.setPc v).env = s.env := rfl
@[simp] theorem setPc_offered (v : BitVec 5) : (s.setPc v).offered = s.offered := rfl
@[simp] theorem setPc_levelNow (v : BitVec 5) : (s.setPc v).levelNow = s.levelNow := rfl
@[simp] theorem setPc_sampleNow (v : BitVec 5) : (s.setPc v).sampleNow = s.sampleNow := rfl
@[simp] theorem setPc_failNow (v : BitVec 5) : (s.setPc v).failNow = s.failNow := rfl

/-! ### setHalt -/

@[simp] theorem setHalt_pc (v : Bool) : (s.setHalt v).pc = s.pc := rfl
@[simp] theorem setHalt_halt (v : Bool) : (s.setHalt v).halt = v := rfl
@[simp] theorem setHalt_mode (v : Bool) : (s.setHalt v).mode = s.mode := rfl
@[simp] theorem setHalt_shown (v : Bool) : (s.setHalt v).shown = s.shown := rfl
@[simp] theorem setHalt_prev (v : Bool) : (s.setHalt v).prev = s.prev := rfl
@[simp] theorem setHalt_last (v : Bool) : (s.setHalt v).last = s.last := rfl
@[simp] theorem setHalt_acc (v : Bool) : (s.setHalt v).acc = s.acc := rfl
@[simp] theorem setHalt_ref (v : Bool) : (s.setHalt v).ref = s.ref := rfl
@[simp] theorem setHalt_gwp (v : Bool) : (s.setHalt v).gwp = s.gwp := rfl
@[simp] theorem setHalt_digL (v : Bool) : (s.setHalt v).digL = s.digL := rfl
@[simp] theorem setHalt_digR (v : Bool) : (s.setHalt v).digR = s.digR := rfl
@[simp] theorem setHalt_ind (v : Bool) : (s.setHalt v).ind = s.ind := rfl
@[simp] theorem setHalt_sel (v : Bool) : (s.setHalt v).sel = s.sel := rfl
@[simp] theorem setHalt_data (v : Bool) : (s.setHalt v).data = s.data := rfl
@[simp] theorem setHalt_clk (v : Bool) : (s.setHalt v).clk = s.clk := rfl
@[simp] theorem setHalt_latch (v : Bool) : (s.setHalt v).latch = s.latch := rfl
@[simp] theorem setHalt_ext (v : Bool) : (s.setHalt v).ext = s.ext := rfl
@[simp] theorem setHalt_sinkMsg (v : Bool) : (s.setHalt v).sinkMsg = s.sinkMsg := rfl
@[simp] theorem setHalt_trace (v : Bool) : (s.setHalt v).trace = s.trace := rfl
@[simp] theorem setHalt_env (v : Bool) : (s.setHalt v).env = s.env := rfl
@[simp] theorem setHalt_offered (v : Bool) : (s.setHalt v).offered = s.offered := rfl
@[simp] theorem setHalt_levelNow (v : Bool) : (s.setHalt v).levelNow = s.levelNow := rfl
@[simp] theorem setHalt_sampleNow (v : Bool) : (s.setHalt v).sampleNow = s.sampleNow := rfl
@[simp] theorem setHalt_failNow (v : Bool) : (s.setHalt v).failNow = s.failNow := rfl

/-! ### setMode -/

@[simp] theorem setMode_pc (v : Fin 7) : (s.setMode v).pc = s.pc := rfl
@[simp] theorem setMode_halt (v : Fin 7) : (s.setMode v).halt = s.halt := rfl
@[simp] theorem setMode_mode (v : Fin 7) : (s.setMode v).mode = v := rfl
@[simp] theorem setMode_shown (v : Fin 7) : (s.setMode v).shown = s.shown := rfl
@[simp] theorem setMode_prev (v : Fin 7) : (s.setMode v).prev = s.prev := rfl
@[simp] theorem setMode_last (v : Fin 7) : (s.setMode v).last = s.last := rfl
@[simp] theorem setMode_acc (v : Fin 7) : (s.setMode v).acc = s.acc := rfl
@[simp] theorem setMode_ref (v : Fin 7) : (s.setMode v).ref = s.ref := rfl
@[simp] theorem setMode_gwp (v : Fin 7) : (s.setMode v).gwp = s.gwp := rfl
@[simp] theorem setMode_digL (v : Fin 7) : (s.setMode v).digL = s.digL := rfl
@[simp] theorem setMode_digR (v : Fin 7) : (s.setMode v).digR = s.digR := rfl
@[simp] theorem setMode_ind (v : Fin 7) : (s.setMode v).ind = s.ind := rfl
@[simp] theorem setMode_sel (v : Fin 7) : (s.setMode v).sel = s.sel := rfl
@[simp] theorem setMode_data (v : Fin 7) : (s.setMode v).data = s.data := rfl
@[simp] theorem setMode_clk (v : Fin 7) : (s.setMode v).clk = s.clk := rfl
@[simp] theorem setMode_latch (v : Fin 7) : (s.setMode v).latch = s.latch := rfl
@[simp] theorem setMode_ext (v : Fin 7) : (s.setMode v).ext = s.ext := rfl
@[simp] theorem setMode_sinkMsg (v : Fin 7) : (s.setMode v).sinkMsg = s.sinkMsg := rfl
@[simp] theorem setMode_trace (v : Fin 7) : (s.setMode v).trace = s.trace := rfl
@[simp] theorem setMode_env (v : Fin 7) : (s.setMode v).env = s.env := rfl
@[simp] theorem setMode_offered (v : Fin 7) : (s.setMode v).offered = s.offered := rfl
@[simp] theorem setMode_levelNow (v : Fin 7) : (s.setMode v).levelNow = s.levelNow := rfl
@[simp] theorem setMode_sampleNow (v : Fin 7) : (s.setMode v).sampleNow = s.sampleNow := rfl
@[simp] theorem setMode_failNow (v : Fin 7) : (s.setMode v).failNow = s.failNow := rfl

/-! ### setShown -/

@[simp] theorem setShown_pc (v : Option (Fin 7)) : (s.setShown v).pc = s.pc := rfl
@[simp] theorem setShown_halt (v : Option (Fin 7)) : (s.setShown v).halt = s.halt := rfl
@[simp] theorem setShown_mode (v : Option (Fin 7)) : (s.setShown v).mode = s.mode := rfl
@[simp] theorem setShown_shown (v : Option (Fin 7)) : (s.setShown v).shown = v := rfl
@[simp] theorem setShown_prev (v : Option (Fin 7)) : (s.setShown v).prev = s.prev := rfl
@[simp] theorem setShown_last (v : Option (Fin 7)) : (s.setShown v).last = s.last := rfl
@[simp] theorem setShown_acc (v : Option (Fin 7)) : (s.setShown v).acc = s.acc := rfl
@[simp] theorem setShown_ref (v : Option (Fin 7)) : (s.setShown v).ref = s.ref := rfl
@[simp] theorem setShown_gwp (v : Option (Fin 7)) : (s.setShown v).gwp = s.gwp := rfl
@[simp] theorem setShown_digL (v : Option (Fin 7)) : (s.setShown v).digL = s.digL := rfl
@[simp] theorem setShown_digR (v : Option (Fin 7)) : (s.setShown v).digR = s.digR := rfl
@[simp] theorem setShown_ind (v : Option (Fin 7)) : (s.setShown v).ind = s.ind := rfl
@[simp] theorem setShown_sel (v : Option (Fin 7)) : (s.setShown v).sel = s.sel := rfl
@[simp] theorem setShown_data (v : Option (Fin 7)) : (s.setShown v).data = s.data := rfl
@[simp] theorem setShown_clk (v : Option (Fin 7)) : (s.setShown v).clk = s.clk := rfl
@[simp] theorem setShown_latch (v : Option (Fin 7)) : (s.setShown v).latch = s.latch := rfl
@[simp] theorem setShown_ext (v : Option (Fin 7)) : (s.setShown v).ext = s.ext := rfl
@[simp] theorem setShown_sinkMsg (v : Option (Fin 7)) : (s.setShown v).sinkMsg = s.sinkMsg := rfl
@[simp] theorem setShown_trace (v : Option (Fin 7)) : (s.setShown v).trace = s.trace := rfl
@[simp] theorem setShown_env (v : Option (Fin 7)) : (s.setShown v).env = s.env := rfl
@[simp] theorem setShown_offered (v : Option (Fin 7)) : (s.setShown v).offered = s.offered := rfl
@[simp] theorem setShown_levelNow (v : Option (Fin 7)) : (s.setShown v).levelNow = s.levelNow := rfl
@[simp] theorem setShown_sampleNow (v : Option (Fin 7)) : (s.setShown v).sampleNow = s.sampleNow := rfl
@[simp] theorem setShown_failNow (v : Option (Fin 7)) : (s.setShown v).failNow = s.failNow := rfl

/-! ### setPrev -/

@[simp] theorem setPrev_pc (p : Fin 11) (l : Level) : (s.setPrev p l).pc = s.pc := rfl
@[simp] theorem setPrev_halt (p : Fin 11) (l : Level) : (s.setPrev p l).halt = s.halt := rfl
@[simp] theorem setPrev_mode (p : Fin 11) (l : Level) : (s.setPrev p l).mode = s.mode := rfl
@[simp] theorem setPrev_shown (p : Fin 11) (l : Level) : (s.setPrev p l).shown = s.shown := rfl
@[simp] theorem setPrev_prev (p : Fin 11) (l : Level) : (s.setPrev p l).prev = fileSet s.prev p l := rfl
@[simp] theorem setPrev_last (p : Fin 11) (l : Level) : (s.setPrev p l).last = s.last := rfl
@[simp] theorem setPrev_acc (p : Fin 11) (l : Level) : (s.setPrev p l).acc = s.acc := rfl
@[simp] theorem setPrev_ref (p : Fin 11) (l : Level) : (s.setPrev p l).ref = s.ref := rfl
@[simp] theorem setPrev_gwp (p : Fin 11) (l : Level) : (s.setPrev p l).gwp = s.gwp := rfl
@[simp] theorem setPrev_digL (p : Fin 11) (l : Level) : (s.setPrev p l).digL = s.digL := rfl
@[simp] theorem setPrev_digR (p : Fin 11) (l : Level) : (s.setPrev p l).digR = s.digR := rfl
@[simp] theorem setPrev_ind (p : Fin 11) (l : Level) : (s.setPrev p l).ind = s.ind := rfl
@[simp] theorem setPrev_sel (p : Fin 11) (l : Level) : (s.setPrev p l).sel = s.sel := rfl
@[simp] theorem setPrev_data (p : Fin 11) (l : Level) : (s.setPrev p l).data = s.data := rfl
@[simp] theorem setPrev_clk (p : Fin 11) (l : Level) : (s.setPrev p l).clk = s.clk := rfl
@[simp] theorem setPrev_latch (p : Fin 11) (l : Level) : (s.setPrev p l).latch = s.latch := rfl
@[simp] theorem setPrev_ext (p : Fin 11) (l : Level) : (s.setPrev p l).ext = s.ext := rfl
@[simp] theorem setPrev_sinkMsg (p : Fin 11) (l : Level) : (s.setPrev p l).sinkMsg = s.sinkMsg := rfl
@[simp] theorem setPrev_trace (p : Fin 11) (l : Level) : (s.setPrev p l).trace = s.trace := rfl
@[simp] theorem setPrev_env (p : Fin 11) (l : Level) : (s.setPrev p l).env = s.env := rfl
@[simp] theorem setPrev_offered (p : Fin 11) (l : Level) : (s.setPrev p l).offered = s.offered := rfl
@[simp] theorem setPrev_levelNow (p : Fin 11) (l : Level) : (s.setPrev p l).levelNow = s.levelNow := rfl
@[simp] theorem setPrev_sampleNow (p : Fin 11) (l : Level) : (s.setPrev p l).sampleNow = s.sampleNow := rfl
@[simp] theorem setPrev_failNow (p : Fin 11) (l : Level) : (s.setPrev p l).failNow = s.failNow := rfl

/-! ### setLast -/

@[simp] theorem setLast_pc (c : Fin 9) (q : Option Q) : (s.setLast c q).pc = s.pc := rfl
@[simp] theorem setLast_halt (c : Fin 9) (q : Option Q) : (s.setLast c q).halt = s.halt := rfl
@[simp] theorem setLast_mode (c : Fin 9) (q : Option Q) : (s.setLast c q).mode = s.mode := rfl
@[simp] theorem setLast_shown (c : Fin 9) (q : Option Q) : (s.setLast c q).shown = s.shown := rfl
@[simp] theorem setLast_prev (c : Fin 9) (q : Option Q) : (s.setLast c q).prev = s.prev := rfl
@[simp] theorem setLast_last (c : Fin 9) (q : Option Q) : (s.setLast c q).last = fileSet s.last c q := rfl
@[simp] theorem setLast_acc (c : Fin 9) (q : Option Q) : (s.setLast c q).acc = s.acc := rfl
@[simp] theorem setLast_ref (c : Fin 9) (q : Option Q) : (s.setLast c q).ref = s.ref := rfl
@[simp] theorem setLast_gwp (c : Fin 9) (q : Option Q) : (s.setLast c q).gwp = s.gwp := rfl
@[simp] theorem setLast_digL (c : Fin 9) (q : Option Q) : (s.setLast c q).digL = s.digL := rfl
@[simp] theorem setLast_digR (c : Fin 9) (q : Option Q) : (s.setLast c q).digR = s.digR := rfl
@[simp] theorem setLast_ind (c : Fin 9) (q : Option Q) : (s.setLast c q).ind = s.ind := rfl
@[simp] theorem setLast_sel (c : Fin 9) (q : Option Q) : (s.setLast c q).sel = s.sel := rfl
@[simp] theorem setLast_data (c : Fin 9) (q : Option Q) : (s.setLast c q).data = s.data := rfl
@[simp] theorem setLast_clk (c : Fin 9) (q : Option Q) : (s.setLast c q).clk = s.clk := rfl
@[simp] theorem setLast_latch (c : Fin 9) (q : Option Q) : (s.setLast c q).latch = s.latch := rfl
@[simp] theorem setLast_ext (c : Fin 9) (q : Option Q) : (s.setLast c q).ext = s.ext := rfl
@[simp] theorem setLast_sinkMsg (c : Fin 9) (q : Option Q) : (s.setLast c q).sinkMsg = s.sinkMsg := rfl
@[simp] theorem setLast_trace (c : Fin 9) (q : Option Q) : (s.setLast c q).trace = s.trace := rfl
@[simp] theorem setLast_env (c : Fin 9) (q : Option Q) : (s.setLast c q).env = s.env := rfl
@[simp] theorem setLast_offered (c : Fin 9) (q : Option Q) : (s.setLast c q).offered = s.offered := rfl
@[simp] theorem setLast_levelNow (c : Fin 9) (q : Option Q) : (s.setLast c q).levelNow = s.levelNow := rfl
@[simp] theorem setLast_sampleNow (c : Fin 9) (q : Option Q) : (s.setLast c q).sampleNow = s.sampleNow := rfl
@[simp] theorem setLast_failNow (c : Fin 9) (q : Option Q) : (s.setLast c q).failNow = s.failNow := rfl

/-! ### setAcc -/

@[simp] theorem setAcc_pc (j : Fin 2) (a : Q) : (s.setAcc j a).pc = s.pc := rfl
@[simp] theorem setAcc_halt (j : Fin 2) (a : Q) : (s.setAcc j a).halt = s.halt := rfl
@[simp] theorem setAcc_mode (j : Fin 2) (a : Q) : (s.setAcc j a).mode = s.mode := rfl
@[simp] theorem setAcc_shown (j : Fin 2) (a : Q) : (s.setAcc j a).shown = s.shown := rfl
@[simp] theorem setAcc_prev (j : Fin 2) (a : Q) : (s.setAcc j a).prev = s.prev := rfl
@[simp] theorem setAcc_last (j : Fin 2) (a : Q) : (s.setAcc j a).last = s.last := rfl
@[simp] theorem setAcc_acc (j : Fin 2) (a : Q) : (s.setAcc j a).acc = fileSet s.acc j a := rfl
@[simp] theorem setAcc_ref (j : Fin 2) (a : Q) : (s.setAcc j a).ref = s.ref := rfl
@[simp] theorem setAcc_gwp (j : Fin 2) (a : Q) : (s.setAcc j a).gwp = s.gwp := rfl
@[simp] theorem setAcc_digL (j : Fin 2) (a : Q) : (s.setAcc j a).digL = s.digL := rfl
@[simp] theorem setAcc_digR (j : Fin 2) (a : Q) : (s.setAcc j a).digR = s.digR := rfl
@[simp] theorem setAcc_ind (j : Fin 2) (a : Q) : (s.setAcc j a).ind = s.ind := rfl
@[simp] theorem setAcc_sel (j : Fin 2) (a : Q) : (s.setAcc j a).sel = s.sel := rfl
@[simp] theorem setAcc_data (j : Fin 2) (a : Q) : (s.setAcc j a).data = s.data := rfl
@[simp] theorem setAcc_clk (j : Fin 2) (a : Q) : (s.setAcc j a).clk = s.clk := rfl
@[simp] theorem setAcc_latch (j : Fin 2) (a : Q) : (s.setAcc j a).latch = s.latch := rfl
@[simp] theorem setAcc_ext (j : Fin 2) (a : Q) : (s.setAcc j a).ext = s.ext := rfl
@[simp] theorem setAcc_sinkMsg (j : Fin 2) (a : Q) : (s.setAcc j a).sinkMsg = s.sinkMsg := rfl
@[simp] theorem setAcc_trace (j : Fin 2) (a : Q) : (s.setAcc j a).trace = s.trace := rfl
@[simp] theorem setAcc_env (j : Fin 2) (a : Q) : (s.setAcc j a).env = s.env := rfl
@[simp] theorem setAcc_offered (j : Fin 2) (a : Q) : (s.setAcc j a).offered = s.offered := rfl
@[simp] theorem setAcc_levelNow (j : Fin 2) (a : Q) : (s.setAcc j a).levelNow = s.levelNow := rfl
@[simp] theorem setAcc_sampleNow (j : Fin 2) (a : Q) : (s.setAcc j a).sampleNow = s.sampleNow := rfl
@[simp] theorem setAcc_failNow (j : Fin 2) (a : Q) : (s.setAcc j a).failNow = s.failNow := rfl

/-! ### setRef -/

@[simp] theorem setRef_pc (j : Fin 2) (r : Option Raw) : (s.setRef j r).pc = s.pc := rfl
@[simp] theorem setRef_halt (j : Fin 2) (r : Option Raw) : (s.setRef j r).halt = s.halt := rfl
@[simp] theorem setRef_mode (j : Fin 2) (r : Option Raw) : (s.setRef j r).mode = s.mode := rfl
@[simp] theorem setRef_shown (j : Fin 2) (r : Option Raw) : (s.setRef j r).shown = s.shown := rfl
@[simp] theorem setRef_prev (j : Fin 2) (r : Option Raw) : (s.setRef j r).prev = s.prev := rfl
@[simp] theorem setRef_last (j : Fin 2) (r : Option Raw) : (s.setRef j r).last = s.last := rfl
@[simp] theorem setRef_acc (j : Fin 2) (r : Option Raw) : (s.setRef j r).acc = s.acc := rfl
@[simp] theorem setRef_ref (j : Fin 2) (r : Option Raw) : (s.setRef j r).ref = fileSet s.ref j r := rfl
@[simp] theorem setRef_gwp (j : Fin 2) (r : Option Raw) : (s.setRef j r).gwp = s.gwp := rfl
@[simp] theorem setRef_digL (j : Fin 2) (r : Option Raw) : (s.setRef j r).digL = s.digL := rfl
@[simp] theorem setRef_digR (j : Fin 2) (r : Option Raw) : (s.setRef j r).digR = s.digR := rfl
@[simp] theorem setRef_ind (j : Fin 2) (r : Option Raw) : (s.setRef j r).ind = s.ind := rfl
@[simp] theorem setRef_sel (j : Fin 2) (r : Option Raw) : (s.setRef j r).sel = s.sel := rfl
@[simp] theorem setRef_data (j : Fin 2) (r : Option Raw) : (s.setRef j r).data = s.data := rfl
@[simp] theorem setRef_clk (j : Fin 2) (r : Option Raw) : (s.setRef j r).clk = s.clk := rfl
@[simp] theorem setRef_latch (j : Fin 2) (r : Option Raw) : (s.setRef j r).latch = s.latch := rfl
@[simp] theorem setRef_ext (j : Fin 2) (r : Option Raw) : (s.setRef j r).ext = s.ext := rfl
@[simp] theorem setRef_sinkMsg (j : Fin 2) (r : Option Raw) : (s.setRef j r).sinkMsg = s.sinkMsg := rfl
@[simp] theorem setRef_trace (j : Fin 2) (r : Option Raw) : (s.setRef j r).trace = s.trace := rfl
@[simp] theorem setRef_env (j : Fin 2) (r : Option Raw) : (s.setRef j r).env = s.env := rfl
@[simp] theorem setRef_offered (j : Fin 2) (r : Option Raw) : (s.setRef j r).offered = s.offered := rfl
@[simp] theorem setRef_levelNow (j : Fin 2) (r : Option Raw) : (s.setRef j r).levelNow = s.levelNow := rfl
@[simp] theorem setRef_sampleNow (j : Fin 2) (r : Option Raw) : (s.setRef j r).sampleNow = s.sampleNow := rfl
@[simp] theorem setRef_failNow (j : Fin 2) (r : Option Raw) : (s.setRef j r).failNow = s.failNow := rfl

/-! ### setGwp -/

@[simp] theorem setGwp_pc (j : Fin 2) (g : Bool) : (s.setGwp j g).pc = s.pc := rfl
@[simp] theorem setGwp_halt (j : Fin 2) (g : Bool) : (s.setGwp j g).halt = s.halt := rfl
@[simp] theorem setGwp_mode (j : Fin 2) (g : Bool) : (s.setGwp j g).mode = s.mode := rfl
@[simp] theorem setGwp_shown (j : Fin 2) (g : Bool) : (s.setGwp j g).shown = s.shown := rfl
@[simp] theorem setGwp_prev (j : Fin 2) (g : Bool) : (s.setGwp j g).prev = s.prev := rfl
@[simp] theorem setGwp_last (j : Fin 2) (g : Bool) : (s.setGwp j g).last = s.last := rfl
@[simp] theorem setGwp_acc (j : Fin 2) (g : Bool) : (s.setGwp j g).acc = s.acc := rfl
@[simp] theorem setGwp_ref (j : Fin 2) (g : Bool) : (s.setGwp j g).ref = s.ref := rfl
@[simp] theorem setGwp_gwp (j : Fin 2) (g : Bool) : (s.setGwp j g).gwp = fileSet s.gwp j g := rfl
@[simp] theorem setGwp_digL (j : Fin 2) (g : Bool) : (s.setGwp j g).digL = s.digL := rfl
@[simp] theorem setGwp_digR (j : Fin 2) (g : Bool) : (s.setGwp j g).digR = s.digR := rfl
@[simp] theorem setGwp_ind (j : Fin 2) (g : Bool) : (s.setGwp j g).ind = s.ind := rfl
@[simp] theorem setGwp_sel (j : Fin 2) (g : Bool) : (s.setGwp j g).sel = s.sel := rfl
@[simp] theorem setGwp_data (j : Fin 2) (g : Bool) : (s.setGwp j g).data = s.data := rfl
@[simp] theorem setGwp_clk (j : Fin 2) (g : Bool) : (s.setGwp j g).clk = s.clk := rfl
@[simp] theorem setGwp_latch (j : Fin 2) (g : Bool) : (s.setGwp j g).latch = s.latch := rfl
@[simp] theorem setGwp_ext (j : Fin 2) (g : Bool) : (s.setGwp j g).ext = s.ext := rfl
@[simp] theorem setGwp_sinkMsg (j : Fin 2) (g : Bool) : (s.setGwp j g).sinkMsg = s.sinkMsg := rfl
@[simp] theorem setGwp_trace (j : Fin 2) (g : Bool) : (s.setGwp j g).trace = s.trace := rfl
@[simp] theorem setGwp_env (j : Fin 2) (g : Bool) : (s.setGwp j g).env = s.env := rfl
@[simp] theorem setGwp_offered (j : Fin 2) (g : Bool) : (s.setGwp j g).offered = s.offered := rfl
@[simp] theorem setGwp_levelNow (j : Fin 2) (g : Bool) : (s.setGwp j g).levelNow = s.levelNow := rfl
@[simp] theorem setGwp_sampleNow (j : Fin 2) (g : Bool) : (s.setGwp j g).sampleNow = s.sampleNow := rfl
@[simp] theorem setGwp_failNow (j : Fin 2) (g : Bool) : (s.setGwp j g).failNow = s.failNow := rfl

/-! ### setDigits -/

@[simp] theorem setDigits_pc (l r : Fin 17) : (s.setDigits l r).pc = s.pc := rfl
@[simp] theorem setDigits_halt (l r : Fin 17) : (s.setDigits l r).halt = s.halt := rfl
@[simp] theorem setDigits_mode (l r : Fin 17) : (s.setDigits l r).mode = s.mode := rfl
@[simp] theorem setDigits_shown (l r : Fin 17) : (s.setDigits l r).shown = s.shown := rfl
@[simp] theorem setDigits_prev (l r : Fin 17) : (s.setDigits l r).prev = s.prev := rfl
@[simp] theorem setDigits_last (l r : Fin 17) : (s.setDigits l r).last = s.last := rfl
@[simp] theorem setDigits_acc (l r : Fin 17) : (s.setDigits l r).acc = s.acc := rfl
@[simp] theorem setDigits_ref (l r : Fin 17) : (s.setDigits l r).ref = s.ref := rfl
@[simp] theorem setDigits_gwp (l r : Fin 17) : (s.setDigits l r).gwp = s.gwp := rfl
@[simp] theorem setDigits_digL (l r : Fin 17) : (s.setDigits l r).digL = l := rfl
@[simp] theorem setDigits_digR (l r : Fin 17) : (s.setDigits l r).digR = r := rfl
@[simp] theorem setDigits_ind (l r : Fin 17) : (s.setDigits l r).ind = s.ind := rfl
@[simp] theorem setDigits_sel (l r : Fin 17) : (s.setDigits l r).sel = s.sel := rfl
@[simp] theorem setDigits_data (l r : Fin 17) : (s.setDigits l r).data = s.data := rfl
@[simp] theorem setDigits_clk (l r : Fin 17) : (s.setDigits l r).clk = s.clk := rfl
@[simp] theorem setDigits_latch (l r : Fin 17) : (s.setDigits l r).latch = s.latch := rfl
@[simp] theorem setDigits_ext (l r : Fin 17) : (s.setDigits l r).ext = s.ext := rfl
@[simp] theorem setDigits_sinkMsg (l r : Fin 17) : (s.setDigits l r).sinkMsg = s.sinkMsg := rfl
@[simp] theorem setDigits_trace (l r : Fin 17) : (s.setDigits l r).trace = s.trace := rfl
@[simp] theorem setDigits_env (l r : Fin 17) : (s.setDigits l r).env = s.env := rfl
@[simp] theorem setDigits_offered (l r : Fin 17) : (s.setDigits l r).offered = s.offered := rfl
@[simp] theorem setDigits_levelNow (l r : Fin 17) : (s.setDigits l r).levelNow = s.levelNow := rfl
@[simp] theorem setDigits_sampleNow (l r : Fin 17) : (s.setDigits l r).sampleNow = s.sampleNow := rfl
@[simp] theorem setDigits_failNow (l r : Fin 17) : (s.setDigits l r).failNow = s.failNow := rfl

/-! ### setInd -/

@[simp] theorem setInd_pc (b : Byte) : (s.setInd b).pc = s.pc := rfl
@[simp] theorem setInd_halt (b : Byte) : (s.setInd b).halt = s.halt := rfl
@[simp] theorem setInd_mode (b : Byte) : (s.setInd b).mode = s.mode := rfl
@[simp] theorem setInd_shown (b : Byte) : (s.setInd b).shown = s.shown := rfl
@[simp] theorem setInd_prev (b : Byte) : (s.setInd b).prev = s.prev := rfl
@[simp] theorem setInd_last (b : Byte) : (s.setInd b).last = s.last := rfl
@[simp] theorem setInd_acc (b : Byte) : (s.setInd b).acc = s.acc := rfl
@[simp] theorem setInd_ref (b : Byte) : (s.setInd b).ref = s.ref := rfl
@[simp] theorem setInd_gwp (b : Byte) : (s.setInd b).gwp = s.gwp := rfl
@[simp] theorem setInd_digL (b : Byte) : (s.setInd b).digL = s.digL := rfl
@[simp] theorem setInd_digR (b : Byte) : (s.setInd b).digR = s.digR := rfl
@[simp] theorem setInd_ind (b : Byte) : (s.setInd b).ind = b := rfl
@[simp] theorem setInd_sel (b : Byte) : (s.setInd b).sel = s.sel := rfl
@[simp] theorem setInd_data (b : Byte) : (s.setInd b).data = s.data := rfl
@[simp] theorem setInd_clk (b : Byte) : (s.setInd b).clk = s.clk := rfl
@[simp] theorem setInd_latch (b : Byte) : (s.setInd b).latch = s.latch := rfl
@[simp] theorem setInd_ext (b : Byte) : (s.setInd b).ext = s.ext := rfl
@[simp] theorem setInd_sinkMsg (b : Byte) : (s.setInd b).sinkMsg = s.sinkMsg := rfl
@[simp] theorem setInd_trace (b : Byte) : (s.setInd b).trace = s.trace := rfl
@[simp] theorem setInd_env (b : Byte) : (s.setInd b).env = s.env := rfl
@[simp] theorem setInd_offered (b : Byte) : (s.setInd b).offered = s.offered := rfl
@[simp] theorem setInd_levelNow (b : Byte) : (s.setInd b).levelNow = s.levelNow := rfl
@[simp] theorem setInd_sampleNow (b : Byte) : (s.setInd b).sampleNow = s.sampleNow := rfl
@[simp] theorem setInd_failNow (b : Byte) : (s.setInd b).failNow = s.failNow := rfl

/-! ### setSel -/

@[simp] theorem setSel_pc (n : BitVec 3) : (s.setSel n).pc = s.pc := rfl
@[simp] theorem setSel_halt (n : BitVec 3) : (s.setSel n).halt = s.halt := rfl
@[simp] theorem setSel_mode (n : BitVec 3) : (s.setSel n).mode = s.mode := rfl
@[simp] theorem setSel_shown (n : BitVec 3) : (s.setSel n).shown = s.shown := rfl
@[simp] theorem setSel_prev (n : BitVec 3) : (s.setSel n).prev = s.prev := rfl
@[simp] theorem setSel_last (n : BitVec 3) : (s.setSel n).last = s.last := rfl
@[simp] theorem setSel_acc (n : BitVec 3) : (s.setSel n).acc = s.acc := rfl
@[simp] theorem setSel_ref (n : BitVec 3) : (s.setSel n).ref = s.ref := rfl
@[simp] theorem setSel_gwp (n : BitVec 3) : (s.setSel n).gwp = s.gwp := rfl
@[simp] theorem setSel_digL (n : BitVec 3) : (s.setSel n).digL = s.digL := rfl
@[simp] theorem setSel_digR (n : BitVec 3) : (s.setSel n).digR = s.digR := rfl
@[simp] theorem setSel_ind (n : BitVec 3) : (s.setSel n).ind = s.ind := rfl
@[simp] theorem setSel_sel (n : BitVec 3) : (s.setSel n).sel = n := rfl
@[simp] theorem setSel_data (n : BitVec 3) : (s.setSel n).data = s.data := rfl
@[simp] theorem setSel_clk (n : BitVec 3) : (s.setSel n).clk = s.clk := rfl
@[simp] theorem setSel_latch (n : BitVec 3) : (s.setSel n).latch = s.latch := rfl
@[simp] theorem setSel_ext (n : BitVec 3) : (s.setSel n).ext = s.ext := rfl
@[simp] theorem setSel_sinkMsg (n : BitVec 3) : (s.setSel n).sinkMsg = s.sinkMsg := rfl
@[simp] theorem setSel_trace (n : BitVec 3) : (s.setSel n).trace = s.trace := rfl
@[simp] theorem setSel_env (n : BitVec 3) : (s.setSel n).env = s.env := rfl
@[simp] theorem setSel_offered (n : BitVec 3) : (s.setSel n).offered = s.offered := rfl
@[simp] theorem setSel_levelNow (n : BitVec 3) : (s.setSel n).levelNow = s.levelNow := rfl
@[simp] theorem setSel_sampleNow (n : BitVec 3) : (s.setSel n).sampleNow = s.sampleNow := rfl
@[simp] theorem setSel_failNow (n : BitVec 3) : (s.setSel n).failNow = s.failNow := rfl

/-! ### present -/

@[simp] theorem present_pc (w : SinkWord) : (s.present w).pc = s.pc := rfl
@[simp] theorem present_halt (w : SinkWord) : (s.present w).halt = s.halt := rfl
@[simp] theorem present_mode (w : SinkWord) : (s.present w).mode = s.mode := rfl
@[simp] theorem present_shown (w : SinkWord) : (s.present w).shown = s.shown := rfl
@[simp] theorem present_prev (w : SinkWord) : (s.present w).prev = s.prev := rfl
@[simp] theorem present_last (w : SinkWord) : (s.present w).last = s.last := rfl
@[simp] theorem present_acc (w : SinkWord) : (s.present w).acc = s.acc := rfl
@[simp] theorem present_ref (w : SinkWord) : (s.present w).ref = s.ref := rfl
@[simp] theorem present_gwp (w : SinkWord) : (s.present w).gwp = s.gwp := rfl
@[simp] theorem present_digL (w : SinkWord) : (s.present w).digL = s.digL := rfl
@[simp] theorem present_digR (w : SinkWord) : (s.present w).digR = s.digR := rfl
@[simp] theorem present_ind (w : SinkWord) : (s.present w).ind = s.ind := rfl
@[simp] theorem present_sel (w : SinkWord) : (s.present w).sel = s.sel := rfl
@[simp] theorem present_data (w : SinkWord) : (s.present w).data = s.data := rfl
@[simp] theorem present_clk (w : SinkWord) : (s.present w).clk = s.clk := rfl
@[simp] theorem present_latch (w : SinkWord) : (s.present w).latch = s.latch := rfl
@[simp] theorem present_ext (w : SinkWord) : (s.present w).ext = s.ext := rfl
@[simp] theorem present_sinkMsg (w : SinkWord) : (s.present w).sinkMsg = some w := rfl
@[simp] theorem present_trace (w : SinkWord) : (s.present w).trace = s.trace := rfl
@[simp] theorem present_env (w : SinkWord) : (s.present w).env = s.env := rfl
@[simp] theorem present_offered (w : SinkWord) : (s.present w).offered = s.offered := rfl
@[simp] theorem present_levelNow (w : SinkWord) : (s.present w).levelNow = s.levelNow := rfl
@[simp] theorem present_sampleNow (w : SinkWord) : (s.present w).sampleNow = s.sampleNow := rfl
@[simp] theorem present_failNow (w : SinkWord) : (s.present w).failNow = s.failNow := rfl

/-! ### log -/

@[simp] theorem log_pc (e : Event) : (s.log e).pc = s.pc := rfl
@[simp] theorem log_halt (e : Event) : (s.log e).halt = s.halt := rfl
@[simp] theorem log_mode (e : Event) : (s.log e).mode = s.mode := rfl
@[simp] theorem log_shown (e : Event) : (s.log e).shown = s.shown := rfl
@[simp] theorem log_prev (e : Event) : (s.log e).prev = s.prev := rfl
@[simp] theorem log_last (e : Event) : (s.log e).last = s.last := rfl
@[simp] theorem log_acc (e : Event) : (s.log e).acc = s.acc := rfl
@[simp] theorem log_ref (e : Event) : (s.log e).ref = s.ref := rfl
@[simp] theorem log_gwp (e : Event) : (s.log e).gwp = s.gwp := rfl
@[simp] theorem log_digL (e : Event) : (s.log e).digL = s.digL := rfl
@[simp] theorem log_digR (e : Event) : (s.log e).digR = s.digR := rfl
@[simp] theorem log_ind (e : Event) : (s.log e).ind = s.ind := rfl
@[simp] theorem log_sel (e : Event) : (s.log e).sel = s.sel := rfl
@[simp] theorem log_data (e : Event) : (s.log e).data = s.data := rfl
@[simp] theorem log_clk (e : Event) : (s.log e).clk = s.clk := rfl
@[simp] theorem log_latch (e : Event) : (s.log e).latch = s.latch := rfl
@[simp] theorem log_ext (e : Event) : (s.log e).ext = s.ext := rfl
@[simp] theorem log_sinkMsg (e : Event) : (s.log e).sinkMsg = s.sinkMsg := rfl
@[simp] theorem log_trace (e : Event) : (s.log e).trace = s.trace ++ [e] := rfl
@[simp] theorem log_env (e : Event) : (s.log e).env = s.env := rfl
@[simp] theorem log_offered (e : Event) : (s.log e).offered = s.offered := rfl
@[simp] theorem log_levelNow (e : Event) : (s.log e).levelNow = s.levelNow := rfl
@[simp] theorem log_sampleNow (e : Event) : (s.log e).sampleNow = s.sampleNow := rfl
@[simp] theorem log_failNow (e : Event) : (s.log e).failNow = s.failNow := rfl

/-! ### setResets -/

@[simp] theorem setResets_pc (rs : List Nat) : (s.setResets rs).pc = s.pc := rfl
@[simp] theorem setResets_halt (rs : List Nat) : (s.setResets rs).halt = s.halt := rfl
@[simp] theorem setResets_mode (rs : List Nat) : (s.setResets rs).mode = s.mode := rfl
@[simp] theorem setResets_shown (rs : List Nat) : (s.setResets rs).shown = s.shown := rfl
@[simp] theorem setResets_prev (rs : List Nat) : (s.setResets rs).prev = s.prev := rfl
@[simp] theorem setResets_last (rs : List Nat) : (s.setResets rs).last = s.last := rfl
@[simp] theorem setResets_acc (rs : List Nat) : (s.setResets rs).acc = s.acc := rfl
@[simp] theorem setResets_ref (rs : List Nat) : (s.setResets rs).ref = s.ref := rfl
@[simp] theorem setResets_gwp (rs : List Nat) : (s.setResets rs).gwp = s.gwp := rfl
@[simp] theorem setResets_digL (rs : List Nat) : (s.setResets rs).digL = s.digL := rfl
@[simp] theorem setResets_digR (rs : List Nat) : (s.setResets rs).digR = s.digR := rfl
@[simp] theorem setResets_ind (rs : List Nat) : (s.setResets rs).ind = s.ind := rfl
@[simp] theorem setResets_sel (rs : List Nat) : (s.setResets rs).sel = s.sel := rfl
@[simp] theorem setResets_data (rs : List Nat) : (s.setResets rs).data = s.data := rfl
@[simp] theorem setResets_clk (rs : List Nat) : (s.setResets rs).clk = s.clk := rfl
@[simp] theorem setResets_latch (rs : List Nat) : (s.setResets rs).latch = s.latch := rfl
@[simp] theorem setResets_ext (rs : List Nat) : (s.setResets rs).ext = s.ext := rfl
@[simp] theorem setResets_sinkMsg (rs : List Nat) : (s.setResets rs).sinkMsg = s.sinkMsg := rfl
@[simp] theorem setResets_trace (rs : List Nat) : (s.setResets rs).trace = s.trace := rfl
@[simp] theorem setResets_env (rs : List Nat) : (s.setResets rs).env = { s.env with resets := rs } := rfl
@[simp] theorem setResets_offered (rs : List Nat) : (s.setResets rs).offered = s.offered := rfl
@[simp] theorem setResets_levelNow (rs : List Nat) : (s.setResets rs).levelNow = s.levelNow := rfl
@[simp] theorem setResets_sampleNow (rs : List Nat) : (s.setResets rs).sampleNow = s.sampleNow := rfl
@[simp] theorem setResets_failNow (rs : List Nat) : (s.setResets rs).failNow = s.failNow := rfl

/-! ### setOffered -/

@[simp] theorem setOffered_pc (w : Option SinkWord) : (s.setOffered w).pc = s.pc := rfl
@[simp] theorem setOffered_halt (w : Option SinkWord) : (s.setOffered w).halt = s.halt := rfl
@[simp] theorem setOffered_mode (w : Option SinkWord) : (s.setOffered w).mode = s.mode := rfl
@[simp] theorem setOffered_shown (w : Option SinkWord) : (s.setOffered w).shown = s.shown := rfl
@[simp] theorem setOffered_prev (w : Option SinkWord) : (s.setOffered w).prev = s.prev := rfl
@[simp] theorem setOffered_last (w : Option SinkWord) : (s.setOffered w).last = s.last := rfl
@[simp] theorem setOffered_acc (w : Option SinkWord) : (s.setOffered w).acc = s.acc := rfl
@[simp] theorem setOffered_ref (w : Option SinkWord) : (s.setOffered w).ref = s.ref := rfl
@[simp] theorem setOffered_gwp (w : Option SinkWord) : (s.setOffered w).gwp = s.gwp := rfl
@[simp] theorem setOffered_digL (w : Option SinkWord) : (s.setOffered w).digL = s.digL := rfl
@[simp] theorem setOffered_digR (w : Option SinkWord) : (s.setOffered w).digR = s.digR := rfl
@[simp] theorem setOffered_ind (w : Option SinkWord) : (s.setOffered w).ind = s.ind := rfl
@[simp] theorem setOffered_sel (w : Option SinkWord) : (s.setOffered w).sel = s.sel := rfl
@[simp] theorem setOffered_data (w : Option SinkWord) : (s.setOffered w).data = s.data := rfl
@[simp] theorem setOffered_clk (w : Option SinkWord) : (s.setOffered w).clk = s.clk := rfl
@[simp] theorem setOffered_latch (w : Option SinkWord) : (s.setOffered w).latch = s.latch := rfl
@[simp] theorem setOffered_ext (w : Option SinkWord) : (s.setOffered w).ext = s.ext := rfl
@[simp] theorem setOffered_sinkMsg (w : Option SinkWord) : (s.setOffered w).sinkMsg = s.sinkMsg := rfl
@[simp] theorem setOffered_trace (w : Option SinkWord) : (s.setOffered w).trace = s.trace := rfl
@[simp] theorem setOffered_env (w : Option SinkWord) : (s.setOffered w).env = s.env := rfl
@[simp] theorem setOffered_offered (w : Option SinkWord) : (s.setOffered w).offered = w := rfl
@[simp] theorem setOffered_levelNow (w : Option SinkWord) : (s.setOffered w).levelNow = s.levelNow := rfl
@[simp] theorem setOffered_sampleNow (w : Option SinkWord) : (s.setOffered w).sampleNow = s.sampleNow := rfl
@[simp] theorem setOffered_failNow (w : Option SinkWord) : (s.setOffered w).failNow = s.failNow := rfl

/-! ### tookLevel -/

@[simp] theorem tookLevel_pc : (s.tookLevel).pc = s.pc := rfl
@[simp] theorem tookLevel_halt : (s.tookLevel).halt = s.halt := rfl
@[simp] theorem tookLevel_mode : (s.tookLevel).mode = s.mode := rfl
@[simp] theorem tookLevel_shown : (s.tookLevel).shown = s.shown := rfl
@[simp] theorem tookLevel_prev : (s.tookLevel).prev = s.prev := rfl
@[simp] theorem tookLevel_last : (s.tookLevel).last = s.last := rfl
@[simp] theorem tookLevel_acc : (s.tookLevel).acc = s.acc := rfl
@[simp] theorem tookLevel_ref : (s.tookLevel).ref = s.ref := rfl
@[simp] theorem tookLevel_gwp : (s.tookLevel).gwp = s.gwp := rfl
@[simp] theorem tookLevel_digL : (s.tookLevel).digL = s.digL := rfl
@[simp] theorem tookLevel_digR : (s.tookLevel).digR = s.digR := rfl
@[simp] theorem tookLevel_ind : (s.tookLevel).ind = s.ind := rfl
@[simp] theorem tookLevel_sel : (s.tookLevel).sel = s.sel := rfl
@[simp] theorem tookLevel_data : (s.tookLevel).data = s.data := rfl
@[simp] theorem tookLevel_clk : (s.tookLevel).clk = s.clk := rfl
@[simp] theorem tookLevel_latch : (s.tookLevel).latch = s.latch := rfl
@[simp] theorem tookLevel_ext : (s.tookLevel).ext = s.ext := rfl
@[simp] theorem tookLevel_sinkMsg : (s.tookLevel).sinkMsg = s.sinkMsg := rfl
@[simp] theorem tookLevel_trace : (s.tookLevel).trace = s.trace := rfl
@[simp] theorem tookLevel_env : (s.tookLevel).env = { s.env with levels := s.env.levels.rest } := rfl
@[simp] theorem tookLevel_offered : (s.tookLevel).offered = s.offered := rfl
@[simp] theorem tookLevel_sampleNow : (s.tookLevel).sampleNow = s.sampleNow := rfl
@[simp] theorem tookLevel_failNow : (s.tookLevel).failNow = s.failNow := rfl

/-! ### tookSample -/

@[simp] theorem tookSample_pc : (s.tookSample).pc = s.pc := rfl
@[simp] theorem tookSample_halt : (s.tookSample).halt = s.halt := rfl
@[simp] theorem tookSample_mode : (s.tookSample).mode = s.mode := rfl
@[simp] theorem tookSample_shown : (s.tookSample).shown = s.shown := rfl
@[simp] theorem tookSample_prev : (s.tookSample).prev = s.prev := rfl
@[simp] theorem tookSample_last : (s.tookSample).last = s.last := rfl
@[simp] theorem tookSample_acc : (s.tookSample).acc = s.acc := rfl
@[simp] theorem tookSample_ref : (s.tookSample).ref = s.ref := rfl
@[simp] theorem tookSample_gwp : (s.tookSample).gwp = s.gwp := rfl
@[simp] theorem tookSample_digL : (s.tookSample).digL = s.digL := rfl
@[simp] theorem tookSample_digR : (s.tookSample).digR = s.digR := rfl
@[simp] theorem tookSample_ind : (s.tookSample).ind = s.ind := rfl
@[simp] theorem tookSample_sel : (s.tookSample).sel = s.sel := rfl
@[simp] theorem tookSample_data : (s.tookSample).data = s.data := rfl
@[simp] theorem tookSample_clk : (s.tookSample).clk = s.clk := rfl
@[simp] theorem tookSample_latch : (s.tookSample).latch = s.latch := rfl
@[simp] theorem tookSample_ext : (s.tookSample).ext = s.ext := rfl
@[simp] theorem tookSample_sinkMsg : (s.tookSample).sinkMsg = s.sinkMsg := rfl
@[simp] theorem tookSample_trace : (s.tookSample).trace = s.trace := rfl
@[simp] theorem tookSample_env : (s.tookSample).env = { s.env with samples := s.env.samples.rest } := rfl
@[simp] theorem tookSample_offered : (s.tookSample).offered = s.offered := rfl
@[simp] theorem tookSample_levelNow : (s.tookSample).levelNow = s.levelNow := rfl
@[simp] theorem tookSample_failNow : (s.tookSample).failNow = s.failNow := rfl

/-! ### tookFail -/

@[simp] theorem tookFail_pc : (s.tookFail).pc = s.pc := rfl
@[simp] theorem tookFail_halt : (s.tookFail).halt = s.halt := rfl
@[simp] theorem tookFail_mode : (s.tookFail).mode = s.mode := rfl
@[simp] theorem tookFail_shown : (s.tookFail).shown = s.shown := rfl
@[simp] theorem tookFail_prev : (s.tookFail).prev = s.prev := rfl
@[simp] theorem tookFail_last : (s.tookFail).last = s.last := rfl
@[simp] theorem tookFail_acc : (s.tookFail).acc = s.acc := rfl
@[simp] theorem tookFail_ref : (s.tookFail).ref = s.ref := rfl
@[simp] theorem tookFail_gwp : (s.tookFail).gwp = s.gwp := rfl
@[simp] theorem tookFail_digL : (s.tookFail).digL = s.digL := rfl
@[simp] theorem tookFail_digR : (s.tookFail).digR = s.digR := rfl
@[simp] theorem tookFail_ind : (s.tookFail).ind = s.ind := rfl
@[simp] theorem tookFail_sel : (s.tookFail).sel = s.sel := rfl
@[simp] theorem tookFail_data : (s.tookFail).data = s.data := rfl
@[simp] theorem tookFail_clk : (s.tookFail).clk = s.clk := rfl
@[simp] theorem tookFail_latch : (s.tookFail).latch = s.latch := rfl
@[simp] theorem tookFail_ext : (s.tookFail).ext = s.ext := rfl
@[simp] theorem tookFail_sinkMsg : (s.tookFail).sinkMsg = s.sinkMsg := rfl
@[simp] theorem tookFail_trace : (s.tookFail).trace = s.trace := rfl
@[simp] theorem tookFail_env : (s.tookFail).env = { s.env with fails := s.env.fails.rest } := rfl
@[simp] theorem tookFail_offered : (s.tookFail).offered = s.offered := rfl
@[simp] theorem tookFail_levelNow : (s.tookFail).levelNow = s.levelNow := rfl
@[simp] theorem tookFail_sampleNow : (s.tookFail).sampleNow = s.sampleNow := rfl

end State

end Machine

end Sys2Proof
end

