-- ==== Sys2Proof/Laws/Ops.lean ====
section
/-! SUPPORT. What each statement and each port primitive does when no reset pulse is coming (the lemmas that run an
operation), and what pin writes change, which later proofs cite instead of unfolding the primitives. -/

namespace Sys2Proof.Machine

/-! ## Statements -/

@[simp] theorem Op.read_apply {α : Type} (f : State → α) (s : State) : Op.read f s = .ok (f s) s := rfl

@[simp] theorem Op.write_apply (f : State → State) (s : State) : Op.write f s = .ok () (f s) := rfl

@[simp] theorem Op.stop_apply {α : Type} (w : Stop) (s : State) : (Op.stop w : Op α) s = .error w s := rfl

@[simp] theorem Op.pure_apply {α : Type} (a : α) (s : State) : (pure a : Op α) s = .ok a s := rfl

theorem Op.bind_apply {α β : Type} (x : Op α) (f : α → Op β) (s : State) :
    (x >>= f) s = match x s with
      | .ok a t => f a t
      | .error w t => .error w t := by
  simp only [bind, EStateM.bind]
  cases x s <;> rfl

theorem Op.map_apply {α β : Type} (g : α → β) (x : Op α) (s : State) :
    (g <$> x) s = match x s with
      | .ok a t => .ok (g a) t
      | .error w t => .error w t := by
  simp only [Functor.map, EStateM.map]
  cases x s <;> rfl

theorem Op.bind_ok {α β : Type} {x : Op α} {f : α → Op β} {s t : State} {a : α} (h : x s = .ok a t) :
    (x >>= f) s = f a t := by
  rw [Op.bind_apply, h]

theorem Op.bind_error {α β : Type} {x : Op α} {f : α → Op β} {s t : State} {w : Stop} (h : x s = .error w t) :
    (x >>= f) s = .error w t := by
  rw [Op.bind_apply, h]

theorem Op.ite_apply {α : Type} (c : Prop) [Decidable c] (x y : Op α) (s : State) :
    (if c then x else y) s = if c then x s else y s := by
  split <;> rfl

/-- An operation that ends by itself ends in its last state. -/
theorem runOp_ok {op : Op Unit} {s t : State} (h : op s = .ok () t) : runOp op s = .next t := by
  simp [runOp, Op.ended, h]

/-- An operation whose send fails takes the exception (R234). -/
theorem runOp_exc {op : Op Unit} {s t : State} {e : Exception} (h : op s = .error (.exc e) t) :
    runOp op s = .next (takeException e t) := by
  simp [runOp, Op.ended, h]

/-- An operation that a reset abandons ends in the reset state (R260). -/
theorem runOp_rst {op : Op Unit} {s t : State} (h : op s = .error .rst t) : runOp op s = .next t.afterReset := by
  simp [runOp, Op.ended, h]

/-- An operation that begins with a statement that goes on. -/
theorem runOp_bind_ok {α : Type} {x : Op α} {f : α → Op Unit} {s t : State} {a : α} (h : x s = .ok a t) :
    runOp (x >>= f) s = runOp (f a) t := by
  unfold runOp
  rw [Op.bind_ok h]

theorem runOp_read {α : Type} (g : State → α) (f : α → Op Unit) (s : State) :
    runOp (Op.read g >>= f) s = runOp (f (g s)) s := rfl

theorem runOp_write (g : State → State) (f : Unit → Op Unit) (s : State) :
    runOp (Op.write g >>= f) s = runOp (f ()) (g s) := rfl

/-- No operation ends in a fault or a refusal. -/
theorem runOp_next (op : Op Unit) (s : State) : ∃ t, runOp op s = .next t := ⟨_, rfl⟩

/-! ## The primitives with no reset pulse coming -/

section NoReset

variable {s : State} (h : s.env.resets = [])
include h

theorem checkReset_apply : checkReset s = .ok () s := by
  simp [checkReset, h]

theorem rdpin_apply (p : Fin 11) :
    rdpin p s = .ok s.levelNow (s.tookLevel.log (.rdpin p s.levelNow)) := by
  simp [rdpin, Op.bind_apply, Op.map_apply, checkReset_apply h]

theorem sample_apply (src : Source) :
    sample src s = .ok s.sampleNow (s.tookSample.log (.sample src s.sampleNow)) := by
  simp [sample, Op.bind_apply, Op.map_apply, checkReset_apply h]

theorem setsel_apply (n : BitVec 3) : setsel n s = .ok () ((s.setSel n).log (.setsel n)) := by
  simp [setsel, Op.bind_apply, checkReset_apply h]

theorem delay_apply (w : Wait) : delay w s = .ok () (s.log (.delay w)) := by
  simp [delay, Op.bind_apply, checkReset_apply h]

theorem emit_apply (m : Msg) :
    emit m s = .ok s.failNow ((s.present (encodeMsg m)).tookFail.log (.emit m s.failNow)) := by
  simp [emit, Op.bind_apply, Op.map_apply, checkReset_apply h]

/-- A send that is answered `ok` goes on, one that is answered `fail` halts (R230). -/
theorem send_apply (m : Msg) :
    send m s =
      if s.failNow then .error (.exc .sinkFail) ((s.present (encodeMsg m)).tookFail.log (.emit m true))
      else .ok () ((s.present (encodeMsg m)).tookFail.log (.emit m false)) := by
  simp only [send, Op.bind_apply, emit_apply h, Op.ite_apply]
  split <;> simp_all

end NoReset

/-! ## Frames -/

@[simp] theorem pinWrite_env (w : PinWrite) (s : State) : (pinWrite w s).env = s.env := by
  cases w <;> simp only [pinWrite] <;> split <;> rfl

@[simp] theorem runPins_nil (s : State) : runPins [] s = s := rfl

@[simp] theorem runPins_cons (w : PinWrite) (ws : List PinWrite) (s : State) :
    runPins (w :: ws) s = runPins ws (pinWrite w s) := rfl

theorem runPins_append (ws vs : List PinWrite) (s : State) : runPins (ws ++ vs) s = runPins vs (runPins ws s) := by
  simp [runPins]

/-- Pin writes change only the pins and the external registers. -/
theorem runPins_eq (ws : List PinWrite) (s : State) :
    runPins ws s =
      { s with
        data := (runPins ws s).data, clk := (runPins ws s).clk, latch := (runPins ws s).latch,
        ext := (runPins ws s).ext } := by
  induction ws generalizing s with
  | nil => rfl
  | cons w ws ih =>
    rw [runPins_cons, ih (pinWrite w s)]
    cases w <;> simp only [pinWrite] <;> split <;> rfl

section

variable (ws : List PinWrite) (s : State)

@[simp] theorem runPins_pc : (runPins ws s).pc = s.pc := by rw [runPins_eq]
@[simp] theorem runPins_halt : (runPins ws s).halt = s.halt := by rw [runPins_eq]
@[simp] theorem runPins_mode : (runPins ws s).mode = s.mode := by rw [runPins_eq]
@[simp] theorem runPins_shown : (runPins ws s).shown = s.shown := by rw [runPins_eq]
@[simp] theorem runPins_prev : (runPins ws s).prev = s.prev := by rw [runPins_eq]
@[simp] theorem runPins_last : (runPins ws s).last = s.last := by rw [runPins_eq]
@[simp] theorem runPins_acc : (runPins ws s).acc = s.acc := by rw [runPins_eq]
@[simp] theorem runPins_ref : (runPins ws s).ref = s.ref := by rw [runPins_eq]
@[simp] theorem runPins_gwp : (runPins ws s).gwp = s.gwp := by rw [runPins_eq]
@[simp] theorem runPins_digL : (runPins ws s).digL = s.digL := by rw [runPins_eq]
@[simp] theorem runPins_digR : (runPins ws s).digR = s.digR := by rw [runPins_eq]
@[simp] theorem runPins_ind : (runPins ws s).ind = s.ind := by rw [runPins_eq]
@[simp] theorem runPins_sel : (runPins ws s).sel = s.sel := by rw [runPins_eq]
@[simp] theorem runPins_sinkMsg : (runPins ws s).sinkMsg = s.sinkMsg := by rw [runPins_eq]
@[simp] theorem runPins_trace : (runPins ws s).trace = s.trace := by rw [runPins_eq]
@[simp] theorem runPins_env : (runPins ws s).env = s.env := by rw [runPins_eq]
@[simp] theorem runPins_offered : (runPins ws s).offered = s.offered := by rw [runPins_eq]

end

/-! ## One bit at the pins -/

theorem pinWrite_data (c : Fin 3) (v : Bool) (s : State) :
    pinWrite (.data c v) s = { s with data := fileSet s.data c v } := rfl

/-- R203: a rising clock edge shifts. -/
theorem pinWrite_clk_rise {c : Fin 3} {s : State} (h : fileGet s.clk c = false) :
    pinWrite (.clk c true) s =
      { s with
        clk := fileSet s.clk c true
        ext := { s.ext with sr := fileSet s.ext.sr c (shiftIn (fileGet s.ext.sr c) (fileGet s.data c)) } } := by
  simp [pinWrite, h]

theorem pinWrite_clk_fall (c : Fin 3) (s : State) :
    pinWrite (.clk c false) s = { s with clk := fileSet s.clk c false } := rfl

theorem pinWrite_latch_fall (c : Fin 3) (s : State) :
    pinWrite (.latch c false) s = { s with latch := fileSet s.latch c false } := rfl

/-- R203: a rising latch edge copies the stages to the outputs. -/
theorem pinWrite_latch_rise {c : Fin 3} {s : State} (h : fileGet s.latch c = false) :
    pinWrite (.latch c true) s =
      { s with
        latch := fileSet s.latch c true
        ext := { s.ext with qout := fileSet s.ext.qout c (fileGet s.ext.sr c) } } := by
  simp [pinWrite, h]

/-- One bit of a frame, from a clock that idles low: the data line holds it, the clock is low again, and the external
register has taken it in. -/
theorem runPins_bitWrites {c : Fin 3} {s : State} (h : fileGet s.clk c = false) (v : Bool) :
    runPins (bitWrites c v) s =
      { s with
        data := fileSet s.data c v
        clk := fileSet s.clk c false
        ext := { s.ext with sr := fileSet s.ext.sr c (shiftIn (fileGet s.ext.sr c) v) } } := by
  simp only [bitWrites, runPins_cons, runPins_nil]
  rw [pinWrite_data, pinWrite_clk_rise (by exact h), pinWrite_clk_fall]
  simp

/-- R203: stage 0 takes the data line, stage s the stage before it. -/
theorem shiftIn_getLsbD (sr : Byte) (d : Bool) (n : Nat) :
    (shiftIn sr d).getLsbD n = if n = 0 then d else (decide (n < 8) && sr.getLsbD (n - 1)) := by
  have h0 : ∀ v : Bool, (if v then 1#8 else 0#8 : Byte).getLsbD n = (v && decide (n = 0)) := by
    intro v
    cases v <;> simp
  rw [shiftIn, BitVec.getLsbD_or, h0, BitVec.getLsbD_shiftLeft]
  by_cases h : n = 0
  · simp [h]
  · have : ¬n < 1 := by omega
    simp [h, this]

/-! ## Whole frames -/

theorem sendPins_apply {s : State} (h : s.env.resets = []) (ws : List PinWrite) :
    sendPins ws s = .ok () (runPins ws s) := by
  induction ws generalizing s with
  | nil => rfl
  | cons w ws ih =>
    simp only [sendPins, Op.bind_apply, checkReset_apply h, Op.write_apply]
    rw [ih (by simpa using h)]
    rfl

theorem shout_apply {s : State} (h : s.env.resets = []) (c : Fin 3) (b : Byte) :
    shout c b s = .ok () ((runPins (frameWrites c b) s).log (.shout c b)) := by
  simp [shout, Op.bind_apply, sendPins_apply h]

end Sys2Proof.Machine
end

