-- ==== Sys2Proof/Laws/Operations.lean ====
section
/-! SUPPORT. What each shared operation does when no reset pulse is coming, and which operation each instruction
runs; cited instead of unfolding the operation. -/

namespace Sys2Proof.Machine

@[simp] theorem advance_apply (s : State) : advance s = .ok () (s.setPc (s.pc + 1#5)) := rfl

/-! ## The arithmetic with the constants' values in place -/

/-- R12: `clamp(v, 0, 127)`. -/
theorem clampQ_eq (v : Int) :
    clampQ v = if v < 0 then 0#7 else if 127 < v then 127#7 else BitVec.ofNat 7 v.toNat := rfl

/-- R146, as the rule writes it. -/
theorem quant_eq (raw : Raw) : quant raw = clampQ (127 - (254 * (raw.toNat : Int) + 65535) / 131070) := rfl

/-- R180. -/
theorem nextMode_val (m : Mode) : (nextMode m).val = (m.val + 1) % 7 := rfl

/-! ## The operation behind each instruction -/

theorem exec_key (k : Fin 8) (s : State) : exec (.key k) s = runOp (opKey Config.tables k) s := by
  fin_cases k <;> rfl

theorem exec_mux (i : Fin 7) (h : i ≠ 0) (s : State) : exec (.mux i) s = runOp (opMux i) s := by
  fin_cases i <;> first | exact absurd rfl h | rfl

theorem exec_dir (j : Fin 2) (s : State) : exec (.dir j) s = runOp (opDir j) s := by
  fin_cases j <;> rfl

theorem exec_enc (side : Fin 2) (s : State) : exec (.enc side) s = runOp (opEnc side) s := by
  fin_cases side <;> rfl

theorem exec_ofMsg (m : Msg) (s : State) : exec (.ofMsg m) s = runOp (send m) s := by
  cases m <;> rfl

/-- Every instruction runs one operation. -/
theorem exec_eq_runOp (i : Instr) : ∃ op, ∀ s, exec i s = runOp op s := by
  cases i <;> exact ⟨_, fun _ => rfl⟩

/-- An instruction always answers a next state (no fault and no refusal: R231). -/
theorem exec_next (i : Instr) (s : State) : ∃ t, exec i s = .next t := by
  obtain ⟨op, h⟩ := exec_eq_runOp i
  rw [h]
  exact runOp_next op s

/-- Every instruction is one of the seven kinds of scan operation (R80) or a message word (R86). -/
theorem instr_kinds (i : Instr) :
    i = .refresh ∨ (∃ k, i = .key k) ∨ i = .modeb ∨ (∃ k, i = .mux k) ∨ (∃ j, i = .dir j) ∨ (∃ e, i = .enc e) ∨
      i = .sleep ∨ ∃ m, i = .ofMsg m := by
  cases i with
  | refresh => exact .inl rfl
  | key0 => exact .inr (.inl ⟨0, rfl⟩)
  | key1 => exact .inr (.inl ⟨1, rfl⟩)
  | key2 => exact .inr (.inl ⟨2, rfl⟩)
  | key3 => exact .inr (.inl ⟨3, rfl⟩)
  | key4 => exact .inr (.inl ⟨4, rfl⟩)
  | key5 => exact .inr (.inl ⟨5, rfl⟩)
  | key6 => exact .inr (.inl ⟨6, rfl⟩)
  | key7 => exact .inr (.inl ⟨7, rfl⟩)
  | modeb => exact .inr (.inr (.inl rfl))
  | mux0 => exact .inr (.inr (.inr (.inl ⟨0, rfl⟩)))
  | mux1 => exact .inr (.inr (.inr (.inl ⟨1, rfl⟩)))
  | mux2 => exact .inr (.inr (.inr (.inl ⟨2, rfl⟩)))
  | mux3 => exact .inr (.inr (.inr (.inl ⟨3, rfl⟩)))
  | mux4 => exact .inr (.inr (.inr (.inl ⟨4, rfl⟩)))
  | mux5 => exact .inr (.inr (.inr (.inl ⟨5, rfl⟩)))
  | mux6 => exact .inr (.inr (.inr (.inl ⟨6, rfl⟩)))
  | dir0 => exact .inr (.inr (.inr (.inr (.inl ⟨0, rfl⟩))))
  | dir1 => exact .inr (.inr (.inr (.inr (.inl ⟨1, rfl⟩))))
  | encl => exact .inr (.inr (.inr (.inr (.inr (.inl ⟨0, rfl⟩)))))
  | encr => exact .inr (.inr (.inr (.inr (.inr (.inl ⟨1, rfl⟩)))))
  | sleep => exact .inr (.inr (.inr (.inr (.inr (.inr (.inl rfl))))))
  | noteOn a b => exact .inr (.inr (.inr (.inr (.inr (.inr (.inr ⟨.noteOn a b, rfl⟩))))))
  | noteOff a b => exact .inr (.inr (.inr (.inr (.inr (.inr (.inr ⟨.noteOff a b, rfl⟩))))))
  | cc a b => exact .inr (.inr (.inr (.inr (.inr (.inr (.inr ⟨.cc a b, rfl⟩))))))

/-! ## The shared operations with no reset pulse coming -/

section NoReset

variable {s : State} (h : s.env.resets = [])
include h

/-- R125: the edge, and the stored sample. -/
theorem poll_apply (p : Fin 11) :
    poll p s =
      .ok (edgeOf (fileGet s.prev p) s.levelNow) ((s.tookLevel.log (.rdpin p s.levelNow)).setPrev p s.levelNow) := by
  simp [poll, Op.bind_apply, Op.map_apply, rdpin_apply h]

/-- R148: the sample, the selector, the three events. -/
theorem acquire_apply (i : Fin 7) :
    acquire i s =
      .ok s.sampleNow
        ((((s.setSel (selValue i)).log (.setsel (selValue i))).log (.delay .settle)).tookSample.log
          (.sample .amux s.sampleNow)) := by
  simp [acquire, Op.bind_apply, setsel_apply h, delay_apply, sample_apply, h]

/-- R184: the indicator register and its frame. -/
theorem showLeds_apply (mask : Byte) :
    showLeds mask s =
      .ok () ((runPins (frameWrites chainLed mask) (s.setInd mask)).log (.shout chainLed mask)) := by
  simp [showLeds, Op.bind_apply, shout_apply, h]

omit h in
/-- R149 to R151: an unchanged value sends nothing. -/
theorem sendIfChanged_same {c : Fin 9} {q : Q} (ctrl : Q) (hl : fileGet s.last c = some q) :
    sendIfChanged c ctrl q s = .ok () s := by
  simp [sendIfChanged, Op.bind_apply, hl, differs]

omit h in
/-- R93: an optional register differs from every value but the one it holds. -/
theorem differs_eq_true {α : Type} [BEq α] [LawfulBEq α] {x : Option α} {v : α} (hx : x ≠ some v) :
    differs x v = true := by
  cases x <;> simp_all [differs]

/-- R149 to R151: a changed value is sent, and stored unless the send fails. -/
theorem sendIfChanged_changed {c : Fin 9} {q : Q} (ctrl : Q) (hl : fileGet s.last c ≠ some q) :
    sendIfChanged c ctrl q s =
      if s.failNow then
        .error (.exc .sinkFail) ((s.present (encodeMsg (.cc ctrl q))).tookFail.log (.emit (.cc ctrl q) true))
      else
        .ok () (((s.present (encodeMsg (.cc ctrl q))).tookFail.log (.emit (.cc ctrl q) false)).setLast c (some q)) := by
  simp only [sendIfChanged, report, Op.bind_apply, Op.read_apply, differs_eq_true hl, if_true, send_apply h]
  by_cases hf : s.failNow = true <;> simp [hf]

end NoReset

/-! ## The start of a step -/

/-- With no reset pulse coming a step looks only at `HALT`, the port and `PC`. -/
theorem fetch_noReset {s : State} (h : s.env.resets = []) : fetch s = fetchRunning s := by
  simp [fetch, checkReset_apply h]

end Sys2Proof.Machine
end

