-- ==== Sys2Proof/Laws/PerInstr.lean ====
section
/-! SUPPORT. Per instruction: its encoding is the row of spec/opcode_table.json (width, mask and match); what holds of
every instruction, scan word and table by construction. -/

namespace Sys2Proof.Laws.TableMatch

/-- The encoded word has the row's width, and under the row's mask it is the row's match. -/
def Statement (i : Instr) : Prop :=
  (encode i).bits.1 = i.row.nbits ∧ (encode i).bits.2 &&& i.row.mask = i.row.value

/-- The two top bits of a sink word are its kind. -/
theorem sinkWord_kind (k : BitVec 2) (a b : Q) : (sinkWord k a b).toNat &&& 0xC000 = k.toNat * 16384 := by
  have e : ((sinkWord k a b) &&& 0xC000#16).toNat = k.toNat * 16384 := by
    have h : (sinkWord k a b) &&& 0xC000#16 = (k ++ 0#14).cast (by decide : 2 + 14 = 16) := by
      ext i hi
      simp only [sinkWord, BitVec.getElem_and, BitVec.getElem_cast, BitVec.getElem_append]
      interval_cases i <;> simp
    rw [h, BitVec.toNat_cast, BitVec.toNat_append]
    simp [Nat.shiftLeft_eq]
  simpa using e

theorem refresh : Statement .refresh := by unfold Statement; decide
theorem key0 : Statement .key0 := by unfold Statement; decide
theorem key1 : Statement .key1 := by unfold Statement; decide
theorem key2 : Statement .key2 := by unfold Statement; decide
theorem key3 : Statement .key3 := by unfold Statement; decide
theorem key4 : Statement .key4 := by unfold Statement; decide
theorem key5 : Statement .key5 := by unfold Statement; decide
theorem key6 : Statement .key6 := by unfold Statement; decide
theorem key7 : Statement .key7 := by unfold Statement; decide
theorem modeb : Statement .modeb := by unfold Statement; decide
theorem mux0 : Statement .mux0 := by unfold Statement; decide
theorem mux1 : Statement .mux1 := by unfold Statement; decide
theorem mux2 : Statement .mux2 := by unfold Statement; decide
theorem mux3 : Statement .mux3 := by unfold Statement; decide
theorem mux4 : Statement .mux4 := by unfold Statement; decide
theorem mux5 : Statement .mux5 := by unfold Statement; decide
theorem mux6 : Statement .mux6 := by unfold Statement; decide
theorem dir0 : Statement .dir0 := by unfold Statement; decide
theorem dir1 : Statement .dir1 := by unfold Statement; decide
theorem encl : Statement .encl := by unfold Statement; decide
theorem encr : Statement .encr := by unfold Statement; decide
theorem sleep : Statement .sleep := by unfold Statement; decide
theorem noteOn (note vel : Q) : Statement (.noteOn note vel) := ⟨rfl, sinkWord_kind 0#2 note vel⟩
theorem noteOff (note vel : Q) : Statement (.noteOff note vel) := ⟨rfl, sinkWord_kind 1#2 note vel⟩
theorem cc (ctrl val : Q) : Statement (.cc ctrl val) := ⟨rfl, sinkWord_kind 2#2 ctrl val⟩

end Sys2Proof.Laws.TableMatch

namespace Sys2Proof.Laws

/-- Every term of Instr is well-formed: the operand types hold R86's ranges (U6). -/
theorem instr_wf (i : Instr) : i.wf = true := by
  cases i <;> simp only [Instr.wf, Bool.and_eq_true, decide_eq_true_eq] <;> constructor <;> omega

/-- The words R81 lists are the ones the decoder takes. -/
theorem scanWordLegal_iff (w : Byte) : scanWordLegal w = true ↔ ∃ i, decodeScan w = .ok i := by
  have h : ∀ w : Byte, scanWordLegal w = (decodeScan w).isOk := by decide
  rw [h w]
  cases decodeScan w <;> simp [Except.isOk, Except.toBool]

/-- R7: the block's tables are well-formed, whatever their contents. -/
theorem tables_wf : Config.tables.wf := by
  have h : ∀ k : Fin 8, fileGet Config.tables.keyLed k = Config.keyLed k := fun k => fileGet_ofFn' k
  refine ⟨fun k l e => ?_, ?_⟩
  · rw [h, h] at e
    refine Fin.cases ?_ (fun i => ?_) k e <;> refine Fin.cases ?_ (fun j => ?_) l
    · exact fun _ => rfl
    · exact fun e => absurd e (Fin.succ_ne_zero _).symm
    · exact fun e => absurd e (Fin.succ_ne_zero _)
    · intro e
      have : Config.keyLedTail i = Config.keyLedTail j := Fin.succ_injective _ e
      exact congrArg Fin.succ (Config.keyLedTail.injective this)
  · rw [h]
    rfl
where
  fileGet_ofFn' (k : Fin 8) : fileGet Config.tables.keyLed k = Config.keyLed k := by
    simp [fileGet, Config.tables]

end Sys2Proof.Laws
end

