-- ==== Sys2Proof/Laws/Reset.lean ====
section
/-! SUPPORT. What a coming reset pulse changes of an operation: one law, `Op.Timed`, proved of every operation from its
statements. With `exec_reset_or_blind` a fact about the states in which no pulse is coming carries over to all of
them. -/

namespace Sys2Proof.Safety

open Sys2Proof.Machine

@[simp] theorem moments_append (a b : List Event) : moments (a ++ b) = moments a + moments b := by
  induction a with
  | nil => simp [moments]
  | cons e a ih => simp [moments, ih, Nat.add_assoc]

/-- Past the whole first stretch the second one begins. -/
theorem eventsBefore_append_of_le {n : Nat} {a : List Event} (b : List Event) (h : moments a ≤ n) :
    eventsBefore n (a ++ b) = a ++ eventsBefore (n - moments a) b := by
  induction a generalizing n with
  | nil => simp [moments]
  | cons e a ih =>
    simp only [moments] at h
    simp only [List.cons_append, eventsBefore, moments]
    rw [if_pos (by omega), ih (by omega), Nat.sub_sub]

/-- Inside the first stretch the second one does not matter. -/
theorem eventsBefore_append_of_lt {n : Nat} {a : List Event} (b : List Event) (h : n < moments a) :
    eventsBefore n (a ++ b) = eventsBefore n a := by
  induction a generalizing n with
  | nil => simp [moments] at h
  | cons e a ih =>
    simp only [moments] at h
    simp only [List.cons_append, eventsBefore]
    split
    · rw [ih (by omega)]
    · rfl

end Sys2Proof.Safety

namespace Sys2Proof.Machine

open Sys2Proof.Safety

/-- How an operation ended, with other pulses coming. -/
def endWithResets {α : Type} (rs : List Nat) : EStateM.Result Stop State α → EStateM.Result Stop State α
  | .ok a t => .ok a (t.setResets rs)
  | .error w t => .error w (t.setResets rs)

/-- The operation does not abandon itself when no pulse is coming, and its events are then `events`; with the next
pulse n moments away it does the same when the events pass no more moments than that, and is abandoned otherwise,
with the events before the pulse. -/
def Op.TimedAt {α : Type} (op : Op α) (s : State) (events : List Event) : Prop :=
  (match op s with
    | .ok _ t => t.env.resets = [] ∧ t.trace = s.trace ++ events
    | .error (.exc _) t => t.env.resets = [] ∧ t.trace = s.trace ++ events
    | .error .rst _ => False) ∧
  ∀ n later,
    (moments events ≤ n → op (s.setResets (n :: later)) = endWithResets ((n - moments events) :: later) (op s)) ∧
    (n < moments events → ∃ t, op (s.setResets (n :: later)) = .error .rst t ∧
      t.trace = s.trace ++ eventsBefore n events ∧ t.env.resets = later)

/-- The law, in every state in which no pulse is coming. -/
def Op.Timed {α : Type} (op : Op α) : Prop :=
  ∀ s, s.env.resets = [] → ∃ events, op.TimedAt s events

namespace Op.Timed

theorem pure {α : Type} (a : α) : (Pure.pure a : Op α).Timed := fun s h =>
  ⟨[], ⟨h, by simp⟩, fun _ _ => ⟨fun _ => rfl, fun h => absurd h (Nat.not_lt_zero _)⟩⟩

theorem read {α : Type} {f : State → α} (h : ∀ s rs, f (s.setResets rs) = f s) : (Op.read f).Timed := fun s hs =>
  ⟨[], ⟨hs, by simp⟩, fun n later =>
    ⟨fun _ => by simp [h, endWithResets, moments], fun h => absurd h (Nat.not_lt_zero _)⟩⟩

theorem write {f : State → State} (h : ∀ s rs, f (s.setResets rs) = (f s).setResets rs)
    (hr : ∀ s, (f s).env.resets = s.env.resets ∧ (f s).trace = s.trace) : (Op.write f).Timed := fun s hs =>
  ⟨[], ⟨(hr s).1.trans hs, by simp [hr s]⟩, fun n later =>
    ⟨fun _ => by simp [h, endWithResets, moments], fun h => absurd h (Nat.not_lt_zero _)⟩⟩

theorem bind {α β : Type} {x : Op α} {f : α → Op β} (hx : x.Timed) (hf : ∀ a, (f a).Timed) :
    (x >>= f).Timed := by
  intro s hs
  obtain ⟨e₁, h₁, ht₁⟩ := hx s hs
  cases h : x s with
  | error w t =>
    rw [h] at h₁
    refine ⟨e₁, ?_, fun n later => ⟨fun hn => ?_, fun hn => ?_⟩⟩
    · rw [Op.bind_error h]
      cases w <;> exact h₁
    · have := (ht₁ n later).1 hn
      rw [h] at this
      rw [Op.bind_error h, Op.bind_error this]
      rfl
    · obtain ⟨t', h', r⟩ := (ht₁ n later).2 hn
      exact ⟨t', Op.bind_error h', r⟩
  | ok a t =>
    rw [h] at h₁
    obtain ⟨hr, htr⟩ := h₁
    obtain ⟨e₂, h₂, ht₂⟩ := hf a t hr
    have go : ∀ n later, moments e₁ ≤ n →
        (x >>= f) (s.setResets (n :: later)) = f a (t.setResets ((n - moments e₁) :: later)) := by
      intro n later hn
      have := (ht₁ n later).1 hn
      rw [h] at this
      exact Op.bind_ok this
    refine ⟨e₁ ++ e₂, ?_, fun n later => ⟨fun hn => ?_, fun hn => ?_⟩⟩
    · rw [Op.bind_ok h, ← List.append_assoc, ← htr]
      exact h₂
    · rw [moments_append] at hn
      rw [Op.bind_ok h, go n later (by omega), (ht₂ (n - moments e₁) later).1 (by omega), moments_append,
        Nat.sub_sub]
    · rw [moments_append] at hn
      by_cases hn₁ : moments e₁ ≤ n
      · obtain ⟨t', h', r₁, r₂⟩ := (ht₂ (n - moments e₁) later).2 (by omega)
        exact ⟨t', (go n later hn₁).trans h',
          by rw [r₁, htr, eventsBefore_append_of_le e₂ hn₁, List.append_assoc], r₂⟩
      · obtain ⟨t', h', r₁, r₂⟩ := (ht₁ n later).2 (by omega)
        exact ⟨t', Op.bind_error h', by rw [r₁, eventsBefore_append_of_lt e₂ (by omega)], r₂⟩

theorem ite {α : Type} {c : Prop} [Decidable c] {x y : Op α} (hx : x.Timed) (hy : y.Timed) :
    (if c then x else y).Timed := by
  split <;> assumption

/-! ## The primitives -/

/-- A transaction of one moment: the check, and then a body that adds one event and does not look at the pulses. -/
theorem transaction {α : Type} {body : Op α} (v : State → α) (f : State → State) (e : State → Event)
    (hb : ∀ s, body s = .ok (v s) (f s)) (hv : ∀ s rs, v (s.setResets rs) = v s)
    (hf : ∀ s rs, f (s.setResets rs) = (f s).setResets rs) (he : ∀ s, momentsOf (e s) = 1)
    (hr : ∀ s, (f s).env.resets = s.env.resets ∧ (f s).trace = s.trace ++ [e s]) :
    (checkReset >>= fun _ => body).Timed := by
  intro s hs
  have h0 : (checkReset >>= fun _ => body) s = .ok (v s) (f s) := by
    rw [Op.bind_ok (checkReset_apply hs), hb]
  have hm : moments [e s] = 1 := by simp [moments, he]
  refine ⟨[e s], ?_, fun n later => ⟨fun hn => ?_, fun hn => ?_⟩⟩
  · rw [h0]
    exact ⟨(hr s).1.trans hs, (hr s).2⟩
  · rw [hm] at hn ⊢
    obtain ⟨k, rfl⟩ : ∃ k, n = k + 1 := ⟨n - 1, by omega⟩
    have hc : checkReset (s.setResets ((k + 1) :: later)) = .ok () (s.setResets (k :: later)) := rfl
    rw [h0, Op.bind_ok hc, hb, hv, hf]
    rfl
  · rw [hm] at hn
    obtain rfl : n = 0 := by omega
    exact ⟨s.setResets later, rfl, by simp [eventsBefore, he], rfl⟩

theorem rdpin (p : Line) : (rdpin p).Timed :=
  transaction State.levelNow (fun s => s.tookLevel.log (.rdpin p s.levelNow)) (fun s => .rdpin p s.levelNow)
    (fun _ => rfl) (fun _ _ => rfl) (fun _ _ => rfl) (fun _ => rfl) fun _ => ⟨rfl, rfl⟩

theorem sample (src : Source) : (sample src).Timed :=
  transaction State.sampleNow (fun s => s.tookSample.log (.sample src s.sampleNow))
    (fun s => .sample src s.sampleNow)
    (fun _ => rfl) (fun _ _ => rfl) (fun _ _ => rfl) (fun _ => rfl) fun _ => ⟨rfl, rfl⟩

theorem setsel (n : BitVec 3) : (setsel n).Timed :=
  transaction (fun _ => ()) (fun s => (s.setSel n).log (.setsel n)) (fun _ => .setsel n)
    (fun _ => rfl) (fun _ _ => rfl) (fun _ _ => rfl) (fun _ => rfl) fun _ => ⟨rfl, rfl⟩

theorem delay (w : Wait) : (delay w).Timed :=
  transaction (fun _ => ()) (fun s => s.log (.delay w)) (fun _ => .delay w)
    (fun _ => rfl) (fun _ _ => rfl) (fun _ _ => rfl) (fun _ => rfl) fun _ => ⟨rfl, rfl⟩

theorem emit (m : Msg) : (emit m).Timed :=
  transaction State.failNow (fun s => (s.present (encodeMsg m)).tookFail.log (.emit m s.failNow))
    (fun s => .emit m s.failNow)
    (fun _ => rfl) (fun _ _ => rfl) (fun _ _ => rfl) (fun _ => rfl) fun _ => ⟨rfl, rfl⟩

theorem stop {α : Type} (e : Exception) : (Op.stop (.exc e) : Op α).Timed := fun s h =>
  ⟨[], ⟨h, by simp⟩, fun _ _ => ⟨fun _ => rfl, fun h => absurd h (Nat.not_lt_zero _)⟩⟩

theorem send (m : Msg) : (send m).Timed :=
  (emit m).bind fun _ => ite (stop _) (pure _)

theorem pinWrite_setResets (w : PinWrite) (s : State) (rs : List Nat) :
    pinWrite w (s.setResets rs) = (pinWrite w s).setResets rs := by
  cases w with
  | data c v => rfl
  | clk c v => by_cases h : (v && !fileGet s.clk c) = true <;> simp [pinWrite, State.setResets, h]
  | latch c v => by_cases h : (v && !fileGet s.latch c) = true <;> simp [pinWrite, State.setResets, h]

theorem runPins_setResets (ws : List PinWrite) (s : State) (rs : List Nat) :
    runPins ws (s.setResets rs) = (runPins ws s).setResets rs := by
  induction ws generalizing s with
  | nil => rfl
  | cons w ws ih => rw [runPins_cons, runPins_cons, pinWrite_setResets, ih]

/-- Pin writes before the pulse. -/
theorem sendPins_of_le {ws : List PinWrite} {s : State} {n : Nat} {later : List Nat} (h : ws.length ≤ n) :
    sendPins ws (s.setResets (n :: later)) = .ok () ((runPins ws s).setResets ((n - ws.length) :: later)) := by
  induction ws generalizing s n with
  | nil => rfl
  | cons w ws ih =>
    obtain ⟨k, rfl⟩ : ∃ k, n = k + 1 := ⟨n - 1, by simp at h; omega⟩
    have e : sendPins (w :: ws) (s.setResets ((k + 1) :: later)) = sendPins ws (pinWrite w (s.setResets (k :: later))) :=
      rfl
    rw [e, pinWrite_setResets, ih (by simpa using h), runPins_cons, List.length_cons, Nat.add_sub_add_right]

/-- Pin writes that the pulse abandons. -/
theorem sendPins_of_lt {ws : List PinWrite} {s : State} {n : Nat} {later : List Nat} (h : n < ws.length) :
    ∃ t, sendPins ws (s.setResets (n :: later)) = .error .rst t ∧ t.trace = s.trace ∧ t.env.resets = later := by
  induction ws generalizing s n with
  | nil => simp at h
  | cons w ws ih =>
    cases n with
    | zero => exact ⟨s.setResets later, rfl, rfl, rfl⟩
    | succ k =>
      have e : sendPins (w :: ws) (s.setResets ((k + 1) :: later)) =
          sendPins ws (pinWrite w (s.setResets (k :: later))) := rfl
      obtain ⟨t, h₁, h₂, h₃⟩ := ih (s := pinWrite w s) (n := k) (by simpa using h)
      exact ⟨t, by rw [e, pinWrite_setResets, h₁], h₂.trans (runPins_trace [w] s), h₃⟩

/-- A frame of any pin writes, as many as the moments of its event. -/
theorem frame {ws : List PinWrite} {e : Event} (hm : moments [e] = ws.length) :
    (sendPins ws >>= fun _ => Op.write fun s => s.log e).Timed := by
  intro s hs
  have h0 : (sendPins ws >>= fun _ => Op.write fun s => s.log e) s = .ok () ((runPins ws s).log e) :=
    Op.bind_ok (sendPins_apply hs ws)
  refine ⟨[e], ?_, fun n later => ⟨fun hn => ?_, fun hn => ?_⟩⟩
  · rw [h0]
    exact ⟨by simpa using hs, by simp [State.log]⟩
  · rw [hm] at hn ⊢
    rw [h0, Op.bind_ok (sendPins_of_le hn)]
    rfl
  · rw [hm] at hn
    obtain ⟨t, h₁, h₂, h₃⟩ := sendPins_of_lt (s := s) (later := later) hn
    refine ⟨t, Op.bind_error h₁, ?_, h₃⟩
    have : ¬momentsOf e ≤ n := Nat.not_le.mpr (lt_of_lt_of_eq hn hm.symm)
    simp [h₂, eventsBefore, this]

theorem shout (c : Fin 3) (b : Byte) : (shout c b).Timed := frame rfl

theorem advance : advance.Timed := write (f := fun s => s.setPc (s.pc + 1#5)) (fun _ _ => rfl) fun _ => ⟨rfl, rfl⟩

/-! ## The operations -/

theorem showLeds (mask : Byte) : (showLeds mask).Timed :=
  (write (f := fun s => s.setInd mask) (fun _ _ => rfl) fun _ => ⟨rfl, rfl⟩).bind fun _ => shout _ _

theorem redraw (T : Config.Tables) (m : Fin 7) : (redraw T m).Timed :=
  (write (f := fun s => s.setDigits (fileGet T.disp m).1 (fileGet T.disp m).2) (fun _ _ => rfl) fun _ => ⟨rfl, rfl⟩).bind
    fun _ => (shout _ _).bind fun _ => (shout _ _).bind fun _ => (showLeds _).bind fun _ =>
      write (f := fun s => s.setShown (some m)) (fun _ _ => rfl) fun _ => ⟨rfl, rfl⟩

theorem opRefresh (T : Config.Tables) : (opRefresh T).Timed :=
  (read (f := State.mode) fun _ _ => rfl).bind fun m => (read (f := State.shown) fun _ _ => rfl).bind fun _ =>
    (ite (redraw T m) (pure ())).bind fun _ => advance

theorem poll (p : Fin 11) : (poll p).Timed :=
  (rdpin p).bind fun cur => (read (f := fun s => fileGet s.prev p) fun _ _ => rfl).bind fun prev =>
    (write (f := fun s => s.setPrev p cur) (fun _ _ => rfl) fun _ => ⟨rfl, rfl⟩).bind fun _ => pure (edgeOf prev cur)

theorem keyEdge (T : Config.Tables) (k : Fin 8) (m : Fin 7) (e : Edge) : (keyEdge T k m e).Timed := by
  unfold Machine.keyEdge
  refine ite (pure ()) ?_
  cases e with
  | none => exact pure ()
  | press => exact (send _).bind fun _ => ite (showLeds _) (pure ())
  | release => exact (send _).bind fun _ => ite (showLeds _) (pure ())

theorem opKey (T : Config.Tables) (k : Fin 8) : (opKey T k).Timed :=
  (poll (keyPin k)).bind fun e => (read (f := State.mode) fun _ _ => rfl).bind fun m =>
    (keyEdge T k m e).bind fun _ => advance

theorem opModeb : opModeb.Timed :=
  (poll modePin).bind fun _ =>
    (ite (write (f := fun s => s.setMode (nextMode s.mode)) (fun _ _ => rfl) fun _ => ⟨rfl, rfl⟩) (pure ())).bind
      fun _ => advance

theorem encPoll (side : Fin 2) (m : Fin 7) : (encPoll side m).Timed :=
  ite ((poll _).bind fun _ => ite (send _) (pure ())) (pure ())

theorem opEnc (side : Fin 2) : (opEnc side).Timed :=
  (read (f := State.mode) fun _ _ => rfl).bind fun m => (encPoll side m).bind fun _ => advance

theorem acquire (i : Fin 7) : (acquire i).Timed :=
  (setsel _).bind fun _ => (delay _).bind fun _ => sample _

theorem sendIfChanged (c : Fin 9) (ctrl q : Q) : (sendIfChanged c ctrl q).Timed :=
  (read (f := fun s => fileGet s.last c) fun _ _ => rfl).bind fun _ =>
    ite ((send _).bind fun _ => write (f := fun s => s.setLast c (some q)) (fun _ _ => rfl) fun _ => ⟨rfl, rfl⟩) (pure ())

theorem deltaHeld (j : Fin 2) (raw : Raw) (g : Bool) (ref : Option Raw) (acc : Q) :
    (deltaHeld j raw g ref acc).Timed := by
  unfold Machine.deltaHeld
  split
  · exact ite ((send _).bind fun _ =>
      write (f := fun s => (s.setAcc j _).setRef j (some raw)) (fun _ _ => rfl) fun _ => ⟨rfl, rfl⟩) (pure ())
  · exact pure ()
  · exact pure ()

theorem delta (j : Fin 2) (raw : Raw) : (delta j raw).Timed :=
  (rdpin (gatePin j)).bind fun l => (read (f := fun s => fileGet s.gwp j) fun _ _ => rfl).bind fun _ =>
    (ite (write (f := fun s => s.setRef j (some raw)) (fun _ _ => rfl) fun _ => ⟨rfl, rfl⟩) (pure ())).bind fun _ =>
      (read (f := fun s => fileGet s.ref j) fun _ _ => rfl).bind fun ref =>
        (read (f := fun s => fileGet s.acc j) fun _ _ => rfl).bind fun acc =>
          (deltaHeld j raw (gatePressed l) ref acc).bind fun _ =>
            write (f := fun s => s.setGwp j (gatePressed l)) (fun _ _ => rfl) fun _ => ⟨rfl, rfl⟩

theorem channelZero (T : Config.Tables) (raw : Raw) (m : Fin 7) : (channelZero T raw m).Timed :=
  ite ((delta 0 raw).bind fun _ => delta 1 raw) (sendIfChanged _ _ _)

theorem opMux0 (T : Config.Tables) : (opMux0 T).Timed :=
  (acquire 0).bind fun raw => (read (f := State.mode) fun _ _ => rfl).bind fun m =>
    (channelZero T raw m).bind fun _ => advance

theorem opMux (i : Fin 7) : (opMux i).Timed :=
  (acquire i).bind fun _ => (sendIfChanged _ _ _).bind fun _ => advance

theorem opDir (j : Fin 2) : (opDir j).Timed :=
  (sample _).bind fun _ => (sendIfChanged _ _ _).bind fun _ => advance

theorem opSleep : opSleep.Timed :=
  (delay .loop).bind fun _ => write (f := fun s => s.setPc 0#5) (fun _ _ => rfl) fun _ => ⟨rfl, rfl⟩

end Op.Timed

/-! ## The instructions -/

/-- The operation of every instruction obeys the law. -/
theorem exec_timed (i : Instr) : ∃ op : Op Unit, op.Timed ∧ ∀ s, exec i s = runOp op s := by
  cases i with
  | refresh => exact ⟨_, Op.Timed.opRefresh _, fun _ => rfl⟩
  | key0 | key1 | key2 | key3 | key4 | key5 | key6 | key7 => exact ⟨_, Op.Timed.opKey _ _, fun _ => rfl⟩
  | modeb => exact ⟨_, Op.Timed.opModeb, fun _ => rfl⟩
  | mux0 => exact ⟨_, Op.Timed.opMux0 _, fun _ => rfl⟩
  | mux1 | mux2 | mux3 | mux4 | mux5 | mux6 => exact ⟨_, Op.Timed.opMux _, fun _ => rfl⟩
  | dir0 | dir1 => exact ⟨_, Op.Timed.opDir _, fun _ => rfl⟩
  | encl | encr => exact ⟨_, Op.Timed.opEnc _, fun _ => rfl⟩
  | sleep => exact ⟨_, Op.Timed.opSleep, fun _ => rfl⟩
  | noteOn a b => exact ⟨_, Op.Timed.send _, fun _ => rfl⟩
  | noteOff a b => exact ⟨_, Op.Timed.send _, fun _ => rfl⟩
  | cc a b => exact ⟨_, Op.Timed.send _, fun _ => rfl⟩

/-- An instruction ends in the reset state of the state in which it was abandoned, or does what it does when no reset
pulse is coming. -/
theorem exec_reset_or_blind {i : Instr} {s t : State} (h : exec i s = .next t) :
    (∃ u : State, t = u.afterReset) ∨ exec i (s.setResets []) = .next (t.setResets []) := by
  obtain ⟨op, hop, he⟩ := exec_timed i
  obtain ⟨events, h₀, ht⟩ := hop (s.setResets []) rfl
  rw [he] at h ⊢
  rcases hr : s.env.resets with _ | ⟨n, later⟩
  · have hs : s.setResets [] = s := by rw [← hr]; rfl
    rw [hs] at h₀ ⊢
    injection h with h
    refine .inr (congrArg Host.Outcome.next (?_ : Op.ended (op _) = t.setResets []))
    cases ho : op s with
    | ok a u =>
      rw [ho] at h h₀
      rw [← h]
      exact congrArg u.setResets h₀.1
    | error w u =>
      rw [ho] at h h₀
      cases w with
      | rst => exact h₀.elim
      | exc e =>
        rw [← h]
        exact congrArg (takeException e u).setResets h₀.1
  · have hs : (s.setResets []).setResets (n :: later) = s := by rw [← hr]; rfl
    by_cases hn : moments events ≤ n
    · have hg := (ht n later).1 hn
      rw [hs] at hg
      injection h with h
      rw [hg] at h
      refine .inr (congrArg Host.Outcome.next (?_ : Op.ended (op _) = t.setResets []))
      cases ho : op (s.setResets []) with
      | ok a u =>
        rw [ho] at h h₀
        rw [← h]
        exact congrArg u.setResets h₀.1
      | error w u =>
        rw [ho] at h h₀
        cases w with
        | rst => exact h₀.elim
        | exc e =>
          rw [← h]
          exact congrArg (takeException e u).setResets h₀.1
    · obtain ⟨u, hu, -⟩ := (ht n later).2 (by omega)
      rw [hs] at hu
      rw [runOp_rst hu] at h
      injection h with h
      exact .inl ⟨u, h.symm⟩

end Sys2Proof.Machine
end

