-- ==== Sys2Proof/Laws/Within.lean ====
section
/-! SUPPORT. What holds between the state an operation starts in and the state it ends in, whatever reset pulses are
coming: a relation for the operations that end by themselves or are abandoned by a reset, and one for those that a
failed send ends. Both are proved of an operation from its statements, and `Op.Within.runOp` passes them to the step. -/

namespace Sys2Proof.Machine

/-- The last state stands in R to the first, or in X when the exception ends the operation. -/
def Op.Within {α : Type} (R X : State → State → Prop) (op : Op α) : Prop :=
  ∀ s, match op s with
    | .ok _ t => R s t
    | .error .rst t => R s t
    | .error (.exc _) t => X s t

namespace Op.Within

variable {R X : State → State → Prop}

theorem pure {α : Type} (hrefl : ∀ s, R s s) (a : α) : (Pure.pure a : Op α).Within R X := fun s => hrefl s

theorem read {α : Type} (hrefl : ∀ s, R s s) (f : State → α) : (Op.read f).Within R X := fun s => hrefl s

theorem write {f : State → State} (h : ∀ s, R s (f s)) : (Op.write f).Within R X := h

theorem bind {α β : Type} {x : Op α} {f : α → Op β} (htrans : ∀ s t u, R s t → R t u → R s u)
    (hstop : ∀ s t u, R s t → X t u → X s u) (hx : x.Within R X) (hf : ∀ a, (f a).Within R X) :
    (x >>= f).Within R X := by
  intro s
  have h1 := hx s
  rw [Op.bind_apply]
  cases h : x s with
  | ok a t =>
    rw [h] at h1
    have h2 := hf a t
    simp only []
    split
    · next u hu =>
      rw [hu] at h2
      exact htrans s t u h1 h2
    · next u hu =>
      rw [hu] at h2
      exact htrans s t u h1 h2
    · next u hu =>
      rw [hu] at h2
      exact hstop s t u h1 h2
  | error w t =>
    rw [h] at h1
    cases w <;> exact h1

theorem ite {α : Type} {c : Prop} [Decidable c] {x y : Op α} (hx : x.Within R X) (hy : y.Within R X) :
    (if c then x else y).Within R X := by
  split <;> assumption

theorem checkReset (hrefl : ∀ s, R s s) (h : ∀ s rs, R s (s.setResets rs)) : Machine.checkReset.Within R X := by
  intro s
  unfold Machine.checkReset
  rcases s.env.resets with _ | ⟨_ | n, later⟩
  · exact hrefl s
  · exact h s later
  · exact h s (n :: later)

/-- Pin writes one by one. -/
theorem sendPins (hrefl : ∀ s, R s s) (htrans : ∀ s t u, R s t → R t u → R s u)
    (hstop : ∀ s t u, R s t → X t u → X s u) (h : ∀ s rs, R s (s.setResets rs)) (hw : ∀ w s, R s (pinWrite w s))
    (ws : List PinWrite) : (Machine.sendPins ws).Within R X := by
  induction ws with
  | nil => exact pure hrefl ()
  | cons w ws ih =>
    exact bind htrans hstop (checkReset hrefl h) fun _ => bind htrans hstop (write (hw w)) fun _ => ih

/-- A send: answered `ok`, answered `fail`, or abandoned before it. -/
theorem send (hrefl : ∀ s, R s s) (htrans : ∀ s t u, R s t → R t u → R s u)
    (hstop : ∀ s t u, R s t → X t u → X s u) (h : ∀ s rs, R s (s.setResets rs)) (m : Msg)
    (hok : ∀ s, s.failNow = false → R s ((s.present (encodeMsg m)).tookFail.log (.emit m false)))
    (hfail : ∀ s, s.failNow = true → X s ((s.present (encodeMsg m)).tookFail.log (.emit m true))) :
    (Machine.send m).Within R X := by
  intro s
  have hc := checkReset (X := X) hrefl h s
  cases e : Machine.checkReset s with
  | error w t =>
    have hs : Machine.send m s = .error w t := by simp [Machine.send, emit, Op.bind_apply, e]
    rw [e] at hc
    rw [hs]
    cases w <;> exact hc
  | ok a t =>
    rw [e] at hc
    by_cases hf : t.failNow = true
    · have hs : Machine.send m s =
          .error (.exc .sinkFail) ((t.present (encodeMsg m)).tookFail.log (.emit m true)) := by
        simp [Machine.send, emit, Op.bind_apply, Op.map_apply, e, hf]
      rw [hs]
      exact hstop s t _ hc (hfail t hf)
    · have hs : Machine.send m s = .ok () ((t.present (encodeMsg m)).tookFail.log (.emit m false)) := by
        simp [Machine.send, emit, Op.bind_apply, Op.map_apply, e, hf]
      rw [hs]
      exact htrans s t _ hc (hok t (by simpa using hf))

end Op.Within

/-- The step an operation makes. -/
theorem Op.Within.runOp {R X : State → State → Prop} {op : Op Unit} (h : op.Within R X) {s t : State}
    (ht : Machine.runOp op s = .next t) :
    (∃ u, R s u ∧ (t = u ∨ t = u.afterReset)) ∨ ∃ u, X s u ∧ t = u.setHalt true := by
  have hs := h s
  injection ht with ht
  cases ho : op s with
  | ok a u =>
    rw [ho] at ht hs
    exact .inl ⟨u, hs, .inl ht.symm⟩
  | error w u =>
    rw [ho] at ht hs
    cases w with
    | exc e => exact .inr ⟨u, hs, ht.symm⟩
    | rst => exact .inl ⟨u, hs, .inr ht.symm⟩

end Sys2Proof.Machine
end

