-- ==== Sys2Proof/Tests/Slice0.lean ====
section
/-! SUPPORT. Tests whose expected results are the spec's own: words written out from the tables of 30_encoding.md, the
vectors of 95_test_vectors.md on its example configuration `TESTCFG`; ill-formed terms that the checks refuse; and for
each statement with hypotheses a witness that meets them. -/

namespace Sys2Proof.Tests

open Sys2Proof.Machine Sys2Proof.Safety Sys2Proof.Claims

/-! ## Helpers -/

/-- Section 0 of 95_test_vectors.md. -/
def testCfg : Config.Tables :=
  { seg7 := #v[0x3F, 0x06, 0x5B, 0x4F, 0x66, 0x6D, 0x7D, 0x07, 0x7F, 0x6F, 0x77, 0x7C, 0x39, 0x5E, 0x79, 0x71, 0x00]
    disp := #v[(16, 0), (16, 1), (16, 2), (16, 3), (16, 4), (16, 5), (16, 6)]
    modeLeds := #v[[8], [0, 3], [1, 2], [8], [8], [5], [6, 7]]
    keyLed := #v[0, 1, 2, 3, 7, 6, 5, 4]
    ch0Cc := #v[16, 17, 18, 19, 20, 21, 22] }

/-- The reset state in a mode, at a position, with the environment's coming answers. -/
def at_ (mode : Fin 7) (pc : BitVec 5) (levels : List Level) (samples : List Raw) (fails : List Bool) : State :=
  { State.reset with
    pc := pc, mode := mode, ext := { sr := Vector.replicate 3 0#8, qout := Vector.replicate 3 0#8 }
    env :=
      { levels := { queue := levels, asked := 0 }, samples := { queue := samples, asked := 0 }
        fails := { queue := fails, asked := 0 }, resets := [] } }

/-- What one reads of the next state. -/
def seen {α : Type} (o : Host.Outcome State Fault Refusal) (f : State → α) : Option α :=
  match o with
  | .next t => some (f t)
  | _ => none

/-- A next state from what is seen of it. -/
theorem next_of_seen {α : Type} {o : Host.Outcome State Fault Refusal} {f : State → α} {a : α}
    (h : seen o f = some a) : ∃ t, o = .next t ∧ f t = a := by
  cases o with
  | next t => exact ⟨t, rfl, Option.some.inj h⟩
  | fault r => cases h
  | refused r => cases h

/-! ## Encodings: every row's word, written out from R80, R81 and R86 -/

/-- R81: op 0, op 2, op 6 (no operand). -/
theorem test_decode_plain :
    decodeScan 0b0000_0000#8 = .ok .refresh ∧ decodeScan 0b0010_0000#8 = .ok .modeb ∧
    decodeScan 0b0110_0000#8 = .ok .sleep := by decide

/-- R81: op 1, the key index. -/
theorem test_decode_keys :
    decodeScan 0b0001_0000#8 = .ok .key0 ∧ decodeScan 0b0001_0001#8 = .ok .key1 ∧
    decodeScan 0b0001_0010#8 = .ok .key2 ∧ decodeScan 0b0001_0011#8 = .ok .key3 ∧
    decodeScan 0b0001_0100#8 = .ok .key4 ∧ decodeScan 0b0001_0101#8 = .ok .key5 ∧
    decodeScan 0b0001_0110#8 = .ok .key6 ∧ decodeScan 0b0001_0111#8 = .ok .key7 := by decide

/-- R81: op 3, the multiplexed channel. -/
theorem test_decode_mux :
    decodeScan 0b0011_0000#8 = .ok .mux0 ∧ decodeScan 0b0011_0001#8 = .ok .mux1 ∧
    decodeScan 0b0011_0010#8 = .ok .mux2 ∧ decodeScan 0b0011_0011#8 = .ok .mux3 ∧
    decodeScan 0b0011_0100#8 = .ok .mux4 ∧ decodeScan 0b0011_0101#8 = .ok .mux5 ∧
    decodeScan 0b0011_0110#8 = .ok .mux6 := by decide

/-- R81: op 4, the direct channel; op 5, the side. -/
theorem test_decode_dir_enc :
    decodeScan 0b0100_0000#8 = .ok .dir0 ∧ decodeScan 0b0100_0001#8 = .ok .dir1 ∧
    decodeScan 0b0101_0000#8 = .ok .encl ∧ decodeScan 0b0101_0001#8 = .ok .encr := by decide

/-- R86 and section 2.10: kind 0, kind 1, kind 2. -/
theorem test_decode_messages :
    decodeSink 0b00_1001111_1111111#16 = .ok (.noteOn 79 127) ∧
    decodeSink 0b01_1001111_0000000#16 = .ok (.noteOff 79 0) ∧
    decodeSink 0b10_0001010_0000001#16 = .ok (.cc 10 1) := by decide

/-- Section 2.10: the words of the messages. -/
theorem test_encode_messages :
    encodeMsg (.noteOn 0 127) = 0x007F#16 ∧ encodeMsg (.noteOn 79 127) = 0x27FF#16 ∧
    encodeMsg (.noteOff 0 0) = 0x4000#16 ∧ encodeMsg (.noteOff 79 0) = 0x6780#16 ∧
    encodeMsg (.cc 1 83) = 0x80D3#16 ∧ encodeMsg (.cc 10 127) = 0x857F#16 ∧ encodeMsg (.cc 10 1) = 0x8501#16 ∧
    encodeMsg (.cc 30 0) = 0x8F00#16 ∧ encodeMsg (.cc 9 127) = 0x84FF#16 ∧ encodeMsg (.cc 127 127) = 0xBFFF#16 := by
  decide

/-- Section 2.11: reserved scan words are refused by name. -/
theorem test_reserved_words :
    ∀ w ∈ [0x01#8, 0x18#8, 0x21#8, 0x37#8, 0x42#8, 0x52#8, 0x61#8, 0x70#8, 0xFF#8],
      decodeScan w = .error (.reservedScan w) := by decide

/-- The table's numbering (spec/opcode_table.json): one word of each format, and a reserved one of each. -/
theorem test_table_words :
    decodeTableWord 8 0x36 = some .mux6 ∧ decodeTableWord 16 0x80D3 = some (.cc 1 83) ∧
    decodeTableWord 8 0x37 = none ∧ decodeTableWord 16 0xC000 = none ∧ decodeTableWord 8 256 = none := by decide

/-! ## WellFormed: an ill-formed term for each check -/

/-- R7: `TESTCFG` "is well formed". -/
theorem test_testCfg_wf : testCfg.wf := by decide

/-- R7: two keys that light one LED. -/
theorem test_wf_refuses_shared_led : ¬({ testCfg with keyLed := #v[0, 1, 2, 3, 4, 5, 6, 6] } : Config.Tables).wf := by
  decide

/-- R7: key 0 that does not light LED 0. -/
theorem test_wf_refuses_key0 : ¬({ testCfg with keyLed := #v[1, 0, 2, 3, 4, 5, 6, 7] } : Config.Tables).wf := by
  decide

/-- R84: an op above 6, and an idx above the largest of its op. -/
theorem test_wf_refuses_scan_words :
    scanWordLegal 0x70#8 = false ∧ scanWordLegal 0x42#8 = false ∧ scanProgramLegal [0x00#8, 0x37#8] = false := by
  decide

/-- R87: kind 3. -/
theorem test_wf_refuses_kind3 : sinkWordLegal 0xC000#16 = false := by decide

/-! ## Fetching -/

/-- R110: a scan word is placed at its position and is the next step's. -/
theorem test_place_scan :
    fetch ((at_ 0 0#5 [] [] []).withFetchWord 8 0x36) = .run .mux6 { at_ 0 16#5 [] [] [] with pc := 16#5 } := rfl

/-- A message word is the next step's and leaves the port; a reserved one is refused. -/
theorem test_place_sink :
    fetch ((at_ 0 5#5 [] [] []).withFetchWord 16 0x80D3) = .run (.cc 1 83) (at_ 0 5#5 [] [] []) ∧
    fetch ((at_ 0 5#5 [] [] []).withFetchWord 16 0xC000) = .refuse (.reservedSinkWord 0xC000#16) := ⟨rfl, rfl⟩

/-- U7: a position outside the program is refused, and so is a word that is not in the program. -/
theorem test_place_outside :
    fetch (at_ 0 22#5 [] [] []) = .refuse (.positionOutsideProgram 22#5) ∧
    fetch ((at_ 0 0#5 [] [] []).withFetchWord 8 0x70) = .refuse (.positionOutsideProgram 31#5) := ⟨rfl, rfl⟩

/-! ## POLL and the keys (sections 2.1 and 2.2) -/

/-- E1 to E4. -/
theorem test_edges :
    edgeOf high high = .none ∧ edgeOf high low = .press ∧ edgeOf low low = .none ∧ edgeOf low high = .release := by
  decide

/-- K1. -/
theorem test_key_press :
    seen (runOp (opKey testCfg 0) (at_ 0 1#5 [low] [] [false]))
        (fun t => (t.trace, t.sinkMsg, t.ind, fileGet t.prev 0, t.pc)) =
      some ([.rdpin 0 low, .emit (.noteOn 0 127) false, .shout 2 0x01], some 0x007F#16, 0x01#8, low, 2#5) := by
  decide

/-- K3: the LED of key 4 is not LED 4. -/
theorem test_key_led :
    seen (runOp (opKey testCfg 4) (at_ 0 5#5 [low] [] [false])) (fun t => (t.sinkMsg, t.ind, frames t.trace)) =
      some (some 0x027F#16, 0x80#8, [(2, 0x80)]) := by
  decide

/-- K11. -/
theorem test_key_release :
    seen (runOp (opKey testCfg 7) { at_ 4 8#5 [high] [] [false] with prev := Vector.replicate 11 low, ind := 0xFF#8 })
        (fun t => (t.sinkMsg, t.ind, frames t.trace, fileGet t.prev 7)) =
      some (some 0x5B80#16, 0x00#8, [(2, 0x00)], high) := by
  decide

/-- K6: the guard. -/
theorem test_key_guard :
    seen (runOp (opKey testCfg 3) { at_ 1 4#5 [high] [] [false] with prev := Vector.replicate 11 low, ind := 0x09#8 })
        (fun t => (t.trace, t.ind, fileGet t.prev 3, t.pc)) =
      some ([.rdpin 3 high], 0x09#8, high, 5#5) := by
  decide

/-- K13, K9: the highest note, and a release in a mode that keeps its pattern. -/
theorem test_key_persist :
    seen (runOp (opKey testCfg 7) { at_ 6 8#5 [low] [] [false] with ind := 0xC0#8 })
        (fun t => (t.sinkMsg, t.ind, frames t.trace)) = some (some 0x27FF#16, 0xC0#8, []) ∧
    seen (runOp (opKey testCfg 5)
          { at_ 2 6#5 [high] [] [false] with prev := Vector.replicate 11 low, ind := 0x06#8 })
        (fun t => (t.sinkMsg, t.ind, frames t.trace)) = some (some 0x4E80#16, 0x06#8, []) := by
  decide

/-- K15: a failed `NoteOn`. -/
theorem test_key_fail :
    seen (runOp (opKey testCfg 2) (at_ 0 3#5 [low] [] [true]))
        (fun t => ((t.trace, t.sinkMsg, t.ind), fileGet t.prev 2, t.halt, t.pc)) =
      some (([.rdpin 2 low, .emit (.noteOn 2 127) true], some 0x017F#16, 0x00#8), low, true, 3#5) := by
  decide

/-! ## The mode button and the encoder buttons (sections 2.3 and 2.4) -/

/-- B4, B3. -/
theorem test_modeb :
    seen (exec .modeb (at_ 6 9#5 [low] [] [])) (fun t => (t.mode, fileGet t.prev 8, t.trace, t.pc)) =
      some (0, low, [.rdpin 8 low], 10#5) ∧
    seen (exec .modeb { at_ 1 9#5 [high] [] [] with prev := Vector.replicate 11 low })
      (fun t => (t.mode, fileGet t.prev 8)) = some (1, high) := by
  decide

/-- V1, V5. -/
theorem test_encl :
    seen (exec .encl (at_ 2 19#5 [low] [] [false])) (fun t => (t.trace, t.sinkMsg, fileGet t.prev 9, t.pc)) =
      some ([.rdpin 9 low, .emit (.cc 10 127) false], some 0x857F#16, low, 20#5) ∧
    seen (exec .encl (at_ 3 19#5 [low] [] [false])) (fun t => (t.trace, fileGet t.prev 9, t.pc)) =
      some ([], high, 20#5) := by
  decide

/-- V4, and V3 on the other side: a release sends nothing. -/
theorem test_encr :
    seen (exec .encr (at_ 2 20#5 [low] [] [false])) (fun t => (t.trace, t.sinkMsg, fileGet t.prev 10)) =
      some ([.rdpin 10 low, .emit (.cc 10 1) false], some 0x8501#16, low) ∧
    seen (exec .encr { at_ 2 20#5 [high] [] [false] with prev := Vector.replicate 11 low })
      (fun t => (t.trace, fileGet t.prev 10, t.pc)) = some ([.rdpin 10 high], high, 21#5) := by
  decide

/-! ## The analog scanner (sections 2.5 and 2.6) -/

/-- Section 2.5, at the thresholds. -/
theorem test_quant :
    ∀ p ∈ ([(0, 127), (258, 127), (259, 126), (1290, 125), (1291, 124), (32767, 64), (32768, 63), (65276, 1),
      (65277, 0), (65535, 0)] : List (Nat × Nat)), (quant (BitVec.ofNat 16 p.1)).toNat = p.2 := by
  decide

/-- A1. -/
theorem test_mux3 :
    seen (exec .mux3 { at_ 5 13#5 [] [32768] [false] with last := Vector.replicate 9 (some 64) })
        (fun t => (t.trace.take 3, t.sinkMsg, fileGet t.last 3, t.sel, t.pc)) =
      some ([.setsel 3, .delay .settle, .sample .amux 32768], some 0x823F#16, some 63, 3#3, 14#5) := by
  decide

/-- A2: the duplicate. -/
theorem test_mux3_duplicate :
    seen (exec .mux3 { at_ 5 13#5 [] [32768] [] with last := Vector.replicate 9 (some 63) })
        (fun t => (messages t.trace, t.pc)) = some ([], 14#5) := by
  decide

/-- A12: a failed `CC`. -/
theorem test_mux2_fail :
    seen (exec .mux2 (at_ 0 12#5 [] [65535] [true]))
        (fun t => (((messages t.trace).length, t.sinkMsg, fileGet t.last 2), t.halt, t.pc, t.sel)) =
      some ((1, some 0x8180#16, none), true, 12#5, 2#3) := by
  decide

/-- A4, A5: channel 0 on the mode's controller. -/
theorem test_mux0_channel :
    seen (runOp (opMux0 testCfg) (at_ 0 10#5 [] [40000] [false])) (fun t => (t.sinkMsg, fileGet t.last 0, t.pc)) =
      some (some 0x8831#16, some 49, 11#5) ∧
    seen (runOp (opMux0 testCfg) (at_ 2 10#5 [] [32768] [false])) (fun t => (t.sinkMsg, fileGet t.last 0)) =
      some (some 0x893F#16, some 63) := by
  decide

/-- A9, A10. -/
theorem test_dir :
    seen (exec .dir0 (at_ 4 17#5 [] [0] [false])) (fun t => (t.trace.take 1, t.sinkMsg, fileGet t.last 7, t.pc)) =
      some ([.sample .adir0 0], some 0x847F#16, some 127, 18#5) ∧
    seen (exec .dir1 (at_ 4 18#5 [] [0] [false])) (fun t => (t.trace.take 1, t.sinkMsg, fileGet t.last 8)) =
      some ([.sample .adir1 0], some 0x84FF#16, some 127) := by
  decide

/-! ## The delta controller (section 2.7) -/

/-- The arithmetic of d. -/
theorem test_deltaStep :
    deltaStep 511 0 = 0 ∧ deltaStep 512 0 = 1 ∧ deltaStep 40000 30000 = 19 ∧ deltaStep 65535 0 = 127 ∧
    deltaStep 0 1 = -1 ∧ deltaStep 0 512 = -1 ∧ deltaStep 0 513 = -2 ∧ deltaStep 0 1025 = -3 ∧
    deltaStep 0 65535 = -128 := by
  decide

/-- The state of a delta vector: mode 1, both instances with the same registers. -/
def gated (acc : Q) (ref : Option Raw) (gwp : Bool) (levels : List Level) (raw : Raw) (fails : List Bool) : State :=
  { at_ 1 10#5 levels [raw] fails with
    acc := Vector.replicate 2 acc, ref := Vector.replicate 2 ref, gwp := Vector.replicate 2 gwp }

/-- X1: the rising edge. -/
theorem test_delta_capture :
    seen (exec .mux0 (gated 64 none false [low, high] 40000 [false]))
        (fun t => ((messages t.trace, fileGet t.acc 0, fileGet t.ref 0), fileGet t.gwp 0, fileGet t.gwp 1, t.pc)) =
      some (([], 64, some 40000), true, false, 11#5) := by
  decide

/-- X2 (S8), with the two reads of the gates; `LAST[0]` is untouched (A6). -/
theorem test_delta_move :
    seen (exec .mux0 (gated 64 (some 40000) true [low, high] 30000 [false]))
        (fun t => (t.trace, t.sinkMsg, fileGet t.acc 0, fileGet t.ref 0, fileGet t.last 0)) =
      some ([.setsel 0, .delay .settle, .sample .amux 30000, .rdpin 0 low, .emit (.cc 1 83) false, .rdpin 3 high],
        some 0x80D3#16, 83, some 30000, none) := by
  decide

/-- X10, X8: at a limit nothing is sent and the reference stays; the clamp. -/
theorem test_delta_limits :
    seen (exec .mux0 (gated 0 (some 0) true [low, high] 600 [false]))
        (fun t => (messages t.trace, fileGet t.ref 0)) = some ([], some 0) ∧
    seen (exec .mux0 (gated 127 (some 0) true [low, high] 65535 [false]))
        (fun t => (messages t.trace, fileGet t.acc 0, fileGet t.ref 0)) = some ([.cc 1 0], 0, some 65535) := by
  decide

/-- X15: a failed send; instance 1 does not run (R233). -/
theorem test_delta_fail :
    seen (exec .mux0 (gated 64 (some 40000) true [low, low] 30000 [true]))
        (fun t => ((messages t.trace, fileGet t.acc 0, fileGet t.ref 0), fileGet t.gwp 0, t.halt, t.pc)) =
      some (([.cc 1 83], 64, some 40000), true, true, 10#5) := by
  decide

/-- `DELTA(1, .)` of section 2.7: line 3 and controller 30. -/
theorem test_delta_second :
    seen (exec .mux0 (gated 64 (some 100) true [high, low] 65535 [false]))
        (fun t => (t.sinkMsg, fileGet t.acc 1, fileGet t.ref 1, fileGet t.gwp 0)) =
      some (some 0x8F00#16, 0, some 65535, false) := by
  decide

/-! ## The display (section 2.8) -/

/-- F4: digits, pattern, frames. -/
theorem test_refresh :
    seen (runOp (opRefresh testCfg) { at_ 6 0#5 [] [] [] with shown := some 5 })
        (fun t => ((t.trace, t.shown, t.digL), t.digR, t.ind, t.pc)) =
      some (([.shout 0 0x00, .shout 1 0x7D, .shout 2 0xC0], some 6, 16), 6, 0xC0#8, 1#5) := by
  decide

/-- F6: nothing is written when the mode is shown. -/
theorem test_refresh_same :
    seen (runOp (opRefresh testCfg) { at_ 0 0#5 [] [] [] with shown := some 0, ind := 0x01#8 })
        (fun t => (t.trace, t.ind, t.pc)) = some ([], 0x01#8, 1#5) := by
  decide

/-- Section 2.8: `LEDMASK` and `SEGLOOKUP`. -/
theorem test_lookups :
    ledMask [] = 0x00#8 ∧ ledMask [0, 3] = 0x09#8 ∧ ledMask [0, 1, 2, 3, 4, 5, 6, 7] = 0xFF#8 ∧
    ledMask [3, 8, 200] = 0x08#8 ∧ segLookup testCfg 9 = 0x6F#8 ∧ segLookup testCfg 16 = 0x00#8 ∧
    segLookup testCfg 17 = 0x00#8 := by
  decide

/-! ## The frame (section 2.9) -/

/-- H1: the writes, bit 0 first. -/
theorem test_frame_writes :
    frameWrites 2 0x09#8 =
      [.latch 2 false,
       .data 2 true, .clk 2 true, .clk 2 false, .data 2 false, .clk 2 true, .clk 2 false,
       .data 2 false, .clk 2 true, .clk 2 false, .data 2 true, .clk 2 true, .clk 2 false,
       .data 2 false, .clk 2 true, .clk 2 false, .data 2 false, .clk 2 true, .clk 2 false,
       .data 2 false, .clk 2 true, .clk 2 false, .data 2 false, .clk 2 true, .clk 2 false,
       .latch 2 true] := by
  decide

/-- H1, H2: the stages after the frame (stage 7 holds bit 0, stage 4 bit 3), and the data line. -/
theorem test_frame_stages :
    fileGet (runPins (frameWrites 2 0x09#8) (at_ 0 0#5 [] [] [])).ext.qout 2 = 0b1001_0000#8 ∧
    fileGet (runPins (frameWrites 1 0x80#8) (at_ 0 0#5 [] [] [])).data 1 = true := by
  decide

/-! ## SLEEP, the messages, the halt, the reset -/

/-- R114. -/
theorem test_sleep :
    seen (exec .sleep (at_ 3 21#5 [] [] [])) (fun t => (t.trace, t.pc, t.mode)) = some ([.delay .loop], 0#5, 3) := by
  decide

/-- R216 to R218: the three message words, the last one answered `fail`. -/
theorem test_messages :
    seen (exec (.noteOn 29 127) (at_ 0 4#5 [] [] [false])) (fun t => (t.sinkMsg, t.halt, t.pc)) =
      some (some 0x0EFF#16, false, 4#5) ∧
    seen (exec (.noteOff 29 0) (at_ 0 4#5 [] [] [false])) (fun t => (t.sinkMsg, t.halt)) =
      some (some 0x4E80#16, false) ∧
    seen (exec (.cc 9 127) (at_ 0 4#5 [] [] [true])) (fun t => (t.sinkMsg, t.halt, t.trace)) =
      some (some 0x84FF#16, true, [.emit (.cc 9 127) true]) := by
  decide

/-- Section 2.12, P6: a step of a halted block does nothing. -/
theorem test_halted_step : step { at_ 2 12#5 [low] [7] [] with halt := true } =
    .next { at_ 2 12#5 [low] [7] [] with halt := true } := rfl

/-- R260: a pulse inside a frame abandons it: `KEY1`'s message is sent, its frame is not. -/
theorem test_reset_in_frame :
    seen (runOp (opKey testCfg 1) ((at_ 0 2#5 [low] [] [false]).setResets [10]))
        (fun t => ((t.trace, t.pc, fileGet t.prev 1), t.ind, t.latch, t.env.resets)) =
      some (([.rdpin 1 low, .emit (.noteOn 1 127) false], 0#5, high), 0x00#8, Vector.replicate 3 true, []) := by
  decide

/-! ## Witnesses: states and operands that meet a statement's hypotheses, each clause's where it has several -/

/-- For `DecodeOfEncode` and `EncodeOfDecode`. -/
theorem witness_encoding :
    Instr.wf (.cc 127 127) = true ∧ decode (.scan 0x13#8) = .ok .key3 ∧ decode (.sink 0x80D3#16) = .ok (.cc 1 83) := by
  decide

/-- For `RefreshRule`, `KeyRule`, `ModeButtonRule`, `EncoderRules`, `Mux0Rule`, `DirectRule`, `SleepRule`,
`EmitRule`, `MessageRule`, `IterationReturnsToStart` and the last clause of `ResetRestoresEveryRegister`. -/
theorem witness_reset :
    NoReset State.reset ∧ Scanning State.reset ∧ State.reset.pc = 0#5 ∧ SameRegisters State.reset State.reset := by
  refine ⟨rfl, ⟨rfl, rfl⟩, rfl, rfl, rfl, rfl, rfl, rfl, rfl, rfl, rfl, rfl, rfl, rfl, rfl, rfl, rfl, rfl, rfl⟩

/-- For `MuxRule`: the first and the last channel. -/
theorem witness_mux : (1 : Fin 7) ≠ 0 ∧ (6 : Fin 7) ≠ 0 ∧ NoReset State.reset := by
  refine ⟨by decide, by decide, rfl⟩

/-- For `StepRunsTheWordAtPc`: the two ends of the program. -/
theorem witness_wordAtPc :
    (NoReset (at_ 0 0#5 [] [] []) ∧ Scanning (at_ 0 0#5 [] [] []) ∧
      Config.scanProgram.toList[(at_ 0 0#5 [] [] []).pc.toNat]? = some 0x00#8 ∧ decodeScan 0x00#8 = .ok .refresh) ∧
    (NoReset (at_ 6 21#5 [] [] []) ∧ Scanning (at_ 6 21#5 [] [] []) ∧
      Config.scanProgram.toList[(at_ 6 21#5 [] [] []).pc.toNat]? = some 0x60#8 ∧ decodeScan 0x60#8 = .ok .sleep) :=
  ⟨⟨rfl, ⟨rfl, rfl⟩, rfl, rfl⟩, ⟨rfl, ⟨rfl, rfl⟩, rfl, rfl⟩⟩

/-- For `StepRunsTheOfferedMessage`. -/
theorem witness_offered :
    let s := (at_ 0 5#5 [] [] []).setOffered (some 0x80D3#16)
    NoReset s ∧ s.halt = false ∧ s.offered = some 0x80D3#16 ∧ decodeSink 0x80D3#16 = .ok (.cc 1 83) :=
  ⟨rfl, rfl, rfl, rfl⟩

/-- For `HaltedUntilReset`: a halted state with no pulse coming, with one due, with one later; a step that halts. -/
theorem witness_halted :
    let s := { at_ 0 12#5 [] [] [] with halt := true }
    NoReset s ∧ (∃ t, step s = .next t) ∧ (∃ t, step (s.setResets [0]) = .next t ∧ t.halt = false) ∧
      (∃ t, step (s.setResets [4]) = .next t ∧ t.halt = true) ∧
      ∃ t, step (at_ 2 19#5 [low] [] [true]) = .next t ∧ t.halt = true :=
  ⟨rfl, ⟨_, rfl⟩, ⟨_, rfl, rfl⟩, ⟨_, rfl, rfl⟩, next_of_seen (f := State.halt) (by decide)⟩

/-- For `SequencingOfSteps`: an operation that goes on, `SLEEP`, and a failed send. -/
theorem witness_sequencing :
    (∃ t, step (at_ 0 9#5 [low] [] []) = .next t ∧ t.pc = 10#5) ∧
    (∃ t, step (at_ 0 21#5 [] [] []) = .next t ∧ t.pc = 0#5) ∧
    ∃ t, step (at_ 2 20#5 [low] [] [true]) = .next t ∧ t.pc = 20#5 :=
  ⟨next_of_seen (f := State.pc) (by decide), next_of_seen (f := State.pc) (by decide),
    next_of_seen (f := State.pc) (by decide)⟩

/-- For `StepAlwaysGoesOn`: the last position with the greatest legal word at the port. -/
theorem witness_goesOn :
    let s := (at_ 0 21#5 [] [] []).setOffered (some 0xBFFF#16)
    PcInProgram s ∧ ∀ w, s.offered = some w → sinkWordLegal w = true := by
  refine ⟨by decide, fun w h => ?_⟩
  cases h
  decide

/-- For the other clauses of `ResetRestoresEveryRegister`: a pulse due at the start; the four moments of a `MUX1` that
sends, with the pulse at the last of them and just past it; the 26 moments of the first frame of a `REFRESH`, with the
pulse at the last of them and just past it; a step with a pulse after its first moment. -/
theorem witness_resetPulse :
    let s := at_ 0 11#5 [] [0] [false]
    let r := at_ 0 0#5 [] [] []
    ((at_ 3 9#5 [low] [] []).setResets [0]).env.resets = [0] ∧
    (∃ t, exec .mux1 (s.setResets [3, 7]) = .next t ∧
      (t.trace, t.sel, t.env.resets) = ([.setsel 1, .delay .settle, .sample .amux 0], 0, [7])) ∧
    (∃ t, exec .mux1 (s.setResets [4, 7]) = .next t ∧
      (t.trace.length, t.sel, t.env.resets) = (4, 1, [0, 7])) ∧
    (∃ t, exec .refresh (r.setResets [25]) = .next t ∧ (t.trace.length, t.env.resets) = (0, [])) ∧
    (∃ t, exec .refresh (r.setResets [26]) = .next t ∧ (t.trace.length, t.env.resets) = (1, [])) ∧
    ((s.setResets [1]).env.resets = [0 + 1] ∧ Scanning (s.setResets [1]) ∧
      Config.scanProgram.toList[(s.setResets [1]).pc.toNat]? = some 0x31#8 ∧ decodeScan 0x31#8 = .ok .mux1) :=
  ⟨rfl, next_of_seen (f := fun t => (t.trace, t.sel, t.env.resets)) (by decide),
    next_of_seen (f := fun t => (t.trace.length, t.sel, t.env.resets)) (by decide),
    next_of_seen (f := fun t => (t.trace.length, t.env.resets)) (by decide),
    next_of_seen (f := fun t => (t.trace.length, t.env.resets)) (by decide), rfl, ⟨rfl, rfl⟩, rfl, rfl⟩

/-- A state that shows mode m, for the invariant. -/
def showing (m : Fin 7) (s : State) : State :=
  { s with
    shown := some m, digL := (fileGet Config.tables.disp m).1, digR := (fileGet Config.tables.disp m).2, ind := 0#8
    ext :=
      { s.ext with
        qout :=
          #v[frameStages (segLookup Config.tables (fileGet Config.tables.disp m).1.val),
             frameStages (segLookup Config.tables (fileGet Config.tables.disp m).2.val), frameStages 0#8] } }

theorem showing_display (m : Fin 7) (s : State) : DisplayTrue Config.tables (showing m s) := by
  intro n hn
  cases hn
  exact ⟨rfl, rfl, rfl, rfl⟩

theorem at_idle (m : Fin 7) (pc : BitVec 5) (l : List Level) (r : List Raw) (f : List Bool) (n : Fin 7) :
    PinsIdle (showing n (at_ m pc l r f)) ∧ GateHasReference (showing n (at_ m pc l r f)) := by
  refine ⟨fun c => ⟨?_, ?_⟩, fun j h => ?_⟩
  · exact fileGet_replicate false c
  · exact fileGet_replicate true c
  · exact absurd ((fileGet_replicate false j).symm.trans h) (by decide)

/-- For `StepKeepsInvariant`: states before `REFRESH` one mode behind, at `MODEB`, and after it one mode behind, that
meet the invariant and have a next state. -/
theorem witness_invariant :
    (Invariant (showing 3 (at_ 4 0#5 [] [] [])) ∧ ∃ t, step (showing 3 (at_ 4 0#5 [] [] [])) = .next t) ∧
    (Invariant (showing 3 (at_ 3 9#5 [low] [] [])) ∧ ∃ t, step (showing 3 (at_ 3 9#5 [low] [] [])) = .next t) ∧
    (Invariant (showing 6 (at_ 0 10#5 [] [] [])) ∧ ∃ t, step (showing 6 (at_ 0 10#5 [] [] [])) = .next t) := by
  refine ⟨⟨⟨?_, (at_idle ..).1, (at_idle ..).2, showing_display _ _, ?_, ?_, ?_⟩, exec_next .refresh _⟩,
    ⟨⟨?_, (at_idle ..).1, (at_idle ..).2, showing_display _ _, ?_, ?_, ?_⟩, exec_next .modeb _⟩,
    ⟨⟨?_, (at_idle ..).1, (at_idle ..).2, showing_display _ _, ?_, ?_, ?_⟩, exec_next .mux0 _⟩⟩
  · decide
  · exact fun _ => .inr ⟨3, rfl, .inr rfl⟩
  · exact fun h => absurd h (by decide)
  · exact fun h => absurd h (by decide)
  · decide
  · exact fun h => absurd h (by decide)
  · exact fun _ _ => rfl
  · exact fun h => absurd h (by decide)
  · decide
  · exact fun h => absurd h (by decide)
  · exact fun _ h => absurd h (by decide)
  · exact fun _ => ⟨6, rfl, .inr rfl⟩

/-- For `AtMostNineteenMessages` and `IterationWaits`: a quiet iteration. -/
theorem witness_iteration :
    let s := { at_ 0 0#5 (List.replicate 9 high) (List.replicate 9 65535) [] with
      shown := some 0, last := Vector.replicate 9 (some 0) }
    NoReset s ∧ Scanning s ∧ s.pc = 0#5 ∧ ∃ t, After 22 s t ∧ t.halt = false :=
  ⟨rfl, ⟨rfl, rfl⟩, rfl, next_of_seen (f := State.halt) (by decide)⟩

/-- For `OnlyLegalMessagesLeave`: a nudge, and the greatest note. -/
theorem witness_legal :
    (at_ 2 20#5 [low] [] [false]).offered = none ∧
    (∃ t, step (at_ 2 20#5 [low] [] [false]) = .next t ∧ messages t.trace = [.cc 10 1]) ∧
    (at_ 6 8#5 [low] [] [false]).offered = none ∧
    ∃ t, step (at_ 6 8#5 [low] [] [false]) = .next t ∧ messages t.trace = [.noteOn 79 127] :=
  ⟨rfl, next_of_seen (f := fun t => messages t.trace) (by decide), rfl,
    next_of_seen (f := fun t => messages t.trace) (by decide)⟩

/-- For `ModeChangesOnlyOnPress`: a press and a step that is none. -/
theorem witness_mode :
    (NoReset (at_ 6 9#5 [low] [] []) ∧ Scanning (at_ 6 9#5 [low] [] []) ∧ Pressing 8 (at_ 6 9#5 [low] [] []) ∧
      ∃ t, step (at_ 6 9#5 [low] [] []) = .next t) ∧
    ∃ t, step (at_ 6 21#5 [] [] []) = .next t :=
  ⟨⟨rfl, ⟨rfl, rfl⟩, ⟨rfl, rfl⟩, ⟨_, rfl⟩⟩, ⟨_, rfl⟩⟩

/-- For `ControlRegistersWrittenOnlyBy`: `SLEEP` meets every premise but the message's, `CC` that one. -/
theorem witness_control :
    (∃ t, exec .sleep State.reset = .next t) ∧ (.sleep : Instr) ≠ .modeb ∧ (.sleep : Instr) ≠ .refresh ∧
    (∀ k, (.sleep : Instr) ≠ .key k) ∧ (∀ k, (.sleep : Instr) ≠ .mux k) ∧
    (∃ t, exec (.cc 1 83) State.reset = .next t) ∧ ∃ m, Instr.cc 1 83 = Instr.ofMsg m :=
  ⟨exec_next _ _, by decide, by decide, by decide, by decide, exec_next _ _, ⟨.cc 1 83, rfl⟩⟩

/-- For `FilesWrittenOnlyBy`: steps that change `PREV[9]` and `LAST[3]`. -/
theorem witness_files :
    (∃ t, exec .encl (at_ 2 19#5 [low] [] [false]) = .next t ∧ fileGet t.prev 9 = low) ∧
    (fileGet (at_ 2 19#5 [low] [] [false]).prev 9 = high) ∧
    (∃ t, exec .mux3 (at_ 0 13#5 [] [32768] [false]) = .next t ∧ fileGet t.last 3 = some 63) ∧
    fileGet (at_ 0 13#5 [] [32768] [false]).last 3 = none :=
  ⟨next_of_seen (f := fun t => fileGet t.prev 9) (by decide), rfl,
    next_of_seen (f := fun t => fileGet t.last 3) (by decide), rfl⟩

/-- For `GateKeysSilentInModeOne`: both keys. -/
theorem witness_gateKeys :
    (at_ 1 1#5 [low] [] []).mode = 1 ∧ NoReset (at_ 1 1#5 [low] [] []) ∧
    ∀ k : Fin 8, k ∈ [0, 3] → k = 0 ∨ k = 3 := by
  refine ⟨rfl, rfl, by decide⟩

/-- For `FailedNoteOnHalts`: in mode 0, and in mode 1 on a key that is no gate. -/
theorem witness_failedNoteOn :
    (NoReset (at_ 0 1#5 [low] [] [true]) ∧ Pressing (keyPin 0) (at_ 0 1#5 [low] [] [true]) ∧
      (at_ 0 1#5 [low] [] [true]).failNow = true ∧ ¬((at_ 0 1#5 [low] [] [true]).mode = 1 ∧ (0 = 0 ∨ 0 = 3))) ∧
    (Pressing (keyPin 2) (at_ 1 3#5 [low] [] [true]) ∧
      ¬((at_ 1 3#5 [low] [] [true]).mode = 1 ∧ ((2 : Fin 8) = 0 ∨ (2 : Fin 8) = 3))) := by
  refine ⟨⟨rfl, ⟨rfl, rfl⟩, rfl, by decide⟩, ⟨rfl, rfl⟩, by decide⟩

/-- For `FailedChannelSendHalts`. -/
theorem witness_failedChannel :
    let s := at_ 0 16#5 [] [65535] [true]
    (6 : Fin 7) ≠ 0 ∧ NoReset s ∧ fileGet s.last (muxChannel 6) ≠ some (quant s.sampleNow) ∧ s.failNow = true := by
  refine ⟨by decide, rfl, by decide, rfl⟩

/-- For `NoDuplicateReports`: a multiplexed channel, channel 0 outside mode 1 and a direct channel, each scanned without
a failure; a second state with a sample of the same quantized value (R147: 32768 and 33283). -/
theorem witness_noDuplicate :
    (∃ t, exec (.mux 6) (at_ 5 16#5 [] [32768] [false]) = .next t ∧ t.halt = false) ∧
    (∃ t, exec .mux0 (at_ 2 10#5 [] [32768] [false]) = .next t ∧ t.halt = false) ∧
    (∃ t, exec (.dir 1) (at_ 5 18#5 [] [32768] [false]) = .next t ∧ t.halt = false) ∧
    ∀ t : State, ∃ u : State, NoReset u ∧ u.mode ≠ 1 ∧ u.last = t.last ∧
      quant u.sampleNow = quant (at_ 5 16#5 [] [32768] [false]).sampleNow := by
  refine ⟨next_of_seen (f := State.halt) (by decide), next_of_seen (f := State.halt) (by decide),
    next_of_seen (f := State.halt) (by decide), fun t => ?_⟩
  have hm : (at_ 5 0#5 [] [33283] []).mode ≠ 1 := by decide
  have hq : quant (at_ 5 0#5 [] [33283] []).sampleNow = quant (at_ 5 16#5 [] [32768] [false]).sampleNow := by decide
  exact ⟨{ at_ 5 0#5 [] [33283] [] with last := t.last }, rfl, hm, rfl, hq⟩

/-- For `ChannelsIgnoreTheMode` and `DigitsAreShadows`. -/
theorem witness_exec :
    NoReset State.reset ∧ (∃ t, exec (.mux 1) State.reset = .next t) ∧ (∃ t, exec (.dir 0) State.reset = .next t) ∧
    ∃ t, exec .refresh State.reset = .next t :=
  ⟨rfl, exec_next _ _, exec_next _ _, exec_next _ _⟩

/-- For `QuantizerProperties`: the first and the last threshold interval. -/
theorem witness_quantizer :
    (0#16).toNat ≤ (65535#16).toNat ∧ (threshold 0 ≤ (258#16).toNat ∧ (258#16).toNat < threshold 1) ∧
    (threshold 127 ≤ (65277#16).toNat ∧ (65277#16).toNat < threshold 128) := by
  decide

/-- For `DeltaRebaselines`: instance 0 and instance 1, each moved, then run again from a state with the same sample. -/
theorem witness_delta :
    (∃ t, exec .mux0 (gated 64 (some 40000) true [low, high] 30000 [false]) = .next t ∧ fileGet t.acc 0 = 83) ∧
    (∃ t, exec .mux0 (gated 64 (some 100) true [high, low] 65535 [false]) = .next t ∧ fileGet t.acc 1 = 0) ∧
    ∀ t : State, ∃ u v : State, NoReset u ∧ u.mode = 1 ∧ u.acc = t.acc ∧ u.ref = t.ref ∧ u.gwp = t.gwp ∧
      u.sampleNow = 30000 ∧ exec .mux0 u = .next v := by
  refine ⟨next_of_seen (f := fun t => fileGet t.acc 0) (by decide),
    next_of_seen (f := fun t => fileGet t.acc 1) (by decide), fun t => ?_⟩
  let u : State := { gated 64 none true [low, high] 30000 [false] with acc := t.acc, ref := t.ref, gwp := t.gwp }
  obtain ⟨v, hv⟩ := exec_next .mux0 u
  exact ⟨u, v, rfl, rfl, rfl, rfl, rfl, rfl, hv⟩

/-- For `RisingGateCapturesSilently`: both gates held. -/
theorem witness_gate :
    let s := gated 64 none false [low, low] 40000 []
    NoReset s ∧ s.mode = 1 ∧ fileGet s.gwp 0 = false ∧ fileGet s.gwp 1 = false ∧ s.levelNow = low := by
  refine ⟨rfl, rfl, rfl, rfl, rfl⟩

/-- For `LedMaskBits`, `FrameAtThePins`, `FrameFillsTheRegister` and `OutputsChangeOnlyAtTheLatch`. -/
theorem witness_frames :
    (∀ i ∈ [8, 200], 7 < i) ∧ (7 ≤ 7) ∧ NoReset (at_ 0 0#5 [] [] []) ∧ (1 : Fin 3) ≠ 2 ∧
    fileGet (at_ 0 0#5 [] [] []).clk 2 = false ∧ 25 < 26 := by
  refine ⟨by decide, by decide, rfl, by decide, rfl, by decide⟩

end Sys2Proof.Tests
end

/-! SUPPORT. What the statements of 10_state.md rest on: an induction over the operations, what a step does, what each
instruction does when no pulse is coming, and which registers it can write. -/

namespace Sys2Proof.Machine

open Sys2Proof.Safety Sys2Proof.Claims

/-! ## An induction over the operations -/

/-- What an operation reads of the registers. -/
inductive RegisterRead : {α : Type} → (State → α) → Prop
  | mode : RegisterRead State.mode
  | shown : RegisterRead State.shown
  | prev (p : Line) : RegisterRead fun s => fileGet s.prev p
  | last (c : Channel) : RegisterRead fun s => fileGet s.last c
  | acc (j : Fin 2) : RegisterRead fun s => fileGet s.acc j
  | ref (j : Fin 2) : RegisterRead fun s => fileGet s.ref j
  | gwp (j : Fin 2) : RegisterRead fun s => fileGet s.gwp j

/-- What an operation writes to the registers outside the port primitives. -/
inductive RegisterWrite : (State → State) → Prop
  | nextPc : RegisterWrite fun s => s.setPc (s.pc + 1#5)
  | firstPc : RegisterWrite fun s => s.setPc 0#5
  | mode : RegisterWrite fun s => s.setMode (nextMode s.mode)
  | shown (m : Option Mode) : RegisterWrite fun s => s.setShown m
  | prev (p : Line) (l : Level) : RegisterWrite fun s => s.setPrev p l
  | last (c : Channel) (q : Option Q) : RegisterWrite fun s => s.setLast c q
  | accRef (j : Fin 2) (a : Q) (r : Option Raw) : RegisterWrite fun s => (s.setAcc j a).setRef j r
  | ref (j : Fin 2) (r : Option Raw) : RegisterWrite fun s => s.setRef j r
  | gwp (j : Fin 2) (g : Bool) : RegisterWrite fun s => s.setGwp j g
  | digits (l r : Fin 17) : RegisterWrite fun s => s.setDigits l r
  | ind (b : Byte) : RegisterWrite fun s => s.setInd b

/-- A predicate that holds of every statement an operation is made of, and of two in sequence when it holds of each. -/
structure Op.Closed (P : (α : Type) → Op α → Prop) : Prop where
  pure {α : Type} (a : α) : P α (pure a)
  bind {α β : Type} {x : Op α} {f : α → Op β} (hx : P α x) (hf : ∀ a, P β (f a)) : P β (x >>= f)
  read {α : Type} {f : State → α} (hf : RegisterRead f) : P α (Op.read f)
  write {f : State → State} (hf : RegisterWrite f) : P Unit (Op.write f)
  rdpin (p : Line) : P Level (rdpin p)
  sample (src : Source) : P Raw (sample src)
  setsel (n : BitVec 3) : P Unit (setsel n)
  delay (w : Wait) : P Unit (delay w)
  shout (c : Fin 3) (b : Byte) : P Unit (shout c b)
  send (m : Msg) : P Unit (send m)

namespace Op.Closed

variable {P : (α : Type) → Op α → Prop} (hP : Op.Closed P)
include hP

omit hP in
theorem ite {α : Type} {c : Prop} [Decidable c] {x y : Op α} (hx : P α x) (hy : P α y) :
    P α (if c then x else y) := by
  split <;> assumption

theorem showLeds (mask : Byte) : P Unit (showLeds mask) :=
  hP.bind (hP.write (.ind mask)) fun _ => hP.shout _ _

theorem opRefresh (T : Config.Tables) : P Unit (opRefresh T) :=
  hP.bind (hP.read .mode) fun _ => hP.bind (hP.read .shown) fun _ => hP.bind
    (ite
      (hP.bind (hP.write (.digits _ _)) fun _ => hP.bind (hP.shout _ _) fun _ => hP.bind (hP.shout _ _) fun _ =>
        hP.bind (hP.showLeds _) fun _ => hP.write (.shown _))
      (hP.pure ()))
    fun _ => hP.write .nextPc

theorem poll (p : Line) : P Edge (poll p) :=
  hP.bind (hP.rdpin p) fun _ => hP.bind (hP.read (.prev p)) fun _ => hP.bind (hP.write (.prev p _)) fun _ => hP.pure _

theorem keyEdge (T : Config.Tables) (k : Key) (m : Mode) (e : Edge) : P Unit (keyEdge T k m e) := by
  unfold Machine.keyEdge
  refine ite (hP.pure ()) ?_
  cases e with
  | none => exact hP.pure ()
  | press => exact hP.bind (hP.send _) fun _ => ite (hP.showLeds _) (hP.pure ())
  | release => exact hP.bind (hP.send _) fun _ => ite (hP.showLeds _) (hP.pure ())

theorem opKey (T : Config.Tables) (k : Key) : P Unit (opKey T k) :=
  hP.bind (hP.poll _) fun _ => hP.bind (hP.read .mode) fun _ => hP.bind (hP.keyEdge _ _ _ _) fun _ => hP.write .nextPc

theorem opModeb : P Unit opModeb :=
  hP.bind (hP.poll _) fun _ => hP.bind (ite (hP.write .mode) (hP.pure ())) fun _ => hP.write .nextPc

theorem opEnc (side : Fin 2) : P Unit (opEnc side) :=
  hP.bind (hP.read .mode) fun _ => hP.bind
    (ite (hP.bind (hP.poll _) fun _ => ite (hP.send _) (hP.pure ())) (hP.pure ())) fun _ => hP.write .nextPc

theorem acquire (i : Mux) : P Raw (acquire i) :=
  hP.bind (hP.setsel _) fun _ => hP.bind (hP.delay _) fun _ => hP.sample _

theorem sendIfChanged (c : Channel) (ctrl q : Q) : P Unit (sendIfChanged c ctrl q) :=
  hP.bind (hP.read (.last c)) fun _ =>
    ite (hP.bind (hP.send _) fun _ => hP.write (.last c (some q))) (hP.pure ())

theorem deltaHeld (j : Fin 2) (raw : Raw) (g : Bool) (ref : Option Raw) (acc : Q) :
    P Unit (deltaHeld j raw g ref acc) := by
  unfold Machine.deltaHeld
  split
  · exact ite (hP.bind (hP.send _) fun _ => hP.write (.accRef j _ _)) (hP.pure ())
  · exact hP.pure ()
  · exact hP.pure ()

theorem delta (j : Fin 2) (raw : Raw) : P Unit (delta j raw) :=
  hP.bind (hP.rdpin _) fun _ => hP.bind (hP.read (.gwp j)) fun _ =>
    hP.bind (ite (hP.write (.ref j (some raw))) (hP.pure ())) fun _ => hP.bind (hP.read (.ref j)) fun _ =>
      hP.bind (hP.read (.acc j)) fun _ => hP.bind (hP.deltaHeld _ _ _ _ _) fun _ => hP.write (.gwp j _)

theorem opMux0 (T : Config.Tables) : P Unit (opMux0 T) :=
  hP.bind (hP.acquire 0) fun raw => hP.bind (hP.read .mode) fun _ => hP.bind
    (ite (hP.bind (hP.delta 0 raw) fun _ => hP.delta 1 raw) (hP.sendIfChanged _ _ _)) fun _ => hP.write .nextPc

theorem opMux (i : Mux) : P Unit (opMux i) :=
  hP.bind (hP.acquire i) fun _ => hP.bind (hP.sendIfChanged _ _ _) fun _ => hP.write .nextPc

theorem opDir (j : Dir) : P Unit (opDir j) :=
  hP.bind (hP.sample _) fun _ => hP.bind (hP.sendIfChanged _ _ _) fun _ => hP.write .nextPc

theorem opSleep : P Unit opSleep :=
  hP.bind (hP.delay _) fun _ => hP.write .firstPc

/-- The operation of every instruction has the property. -/
theorem exec (i : Instr) : ∃ op : Op Unit, P Unit op ∧ ∀ s, exec i s = runOp op s := by
  obtain rfl | ⟨k, rfl⟩ | rfl | ⟨i, rfl⟩ | ⟨j, rfl⟩ | ⟨e, rfl⟩ | rfl | ⟨m, rfl⟩ := instr_kinds i
  · exact ⟨_, hP.opRefresh Config.tables, fun _ => rfl⟩
  · exact ⟨_, hP.opKey Config.tables k, exec_key k⟩
  · exact ⟨_, hP.opModeb, fun _ => rfl⟩
  · by_cases hi : i = 0
    · exact ⟨_, hP.opMux0 Config.tables, fun _ => hi ▸ rfl⟩
    · exact ⟨_, hP.opMux i, exec_mux i hi⟩
  · exact ⟨_, hP.opDir j, exec_dir j⟩
  · exact ⟨_, hP.opEnc e, exec_enc e⟩
  · exact ⟨_, hP.opSleep, fun _ => rfl⟩
  · exact ⟨_, hP.send m, exec_ofMsg m⟩

end Op.Closed

/-! ## What a step does -/

/-- What a block makes of a state, when no reset comes at the start of the step: nothing when it is halted, the
message at the port when there is one, else the operation at `PC` (R22, R110, R111, log entry 5). -/
inductive Steps (s t : State) : Prop
  | idle (halted : s.halt = true) (same : t = s)
  | message (m : Msg) (running : s.halt = false) (waiting : s.offered ≠ none)
      (ran : exec (.ofMsg m) (s.setOffered none) = .next t)
  | scan (i : Instr) (running : s.halt = false) (atPc : iter[s.pc.toNat]? = some i) (ran : exec i s = .next t)

/-- A word of the message port spells a message row (R86). -/
theorem decodeSink_ofMsg {w : SinkWord} {i : Instr} (h : decodeSink w = .ok i) : ∃ m, i = .ofMsg m := by
  unfold decodeSink at h
  split at h
  · exact ⟨.noteOn _ _, (Except.ok.inj h).symm⟩
  · exact ⟨.noteOff _ _, (Except.ok.inj h).symm⟩
  · exact ⟨.cc _ _, (Except.ok.inj h).symm⟩
  · cases h

/-- R110: the words of the scan program spell the operations of `ITER`. -/
theorem scanProgram_decode : Config.scanProgram.toList.map decodeScan = iter.map .ok := by decide

theorem iter_at_pc {pc : BitVec 5} {w : Byte} {i : Instr} (hw : scanWordAt pc = some w) (hi : decodeScan w = .ok i) :
    iter[pc.toNat]? = some i := by
  have h := congrArg (fun l => l[pc.toNat]?) scanProgram_decode
  simp only [List.getElem?_map] at h
  rw [show Config.scanProgram.toList[pc.toNat]? = some w from hw] at h
  cases hj : iter[pc.toNat]? with
  | none => rw [hj] at h; cases h
  | some j =>
    rw [hj, Option.map_some, Option.map_some, hi] at h
    injection h with h
    injection h with h
    rw [h]

theorem steps_of_fetch {s s' t : State} (hf : fetch s' = fetchRunning s) (h : step s' = .next t) : Steps s t := by
  rw [step, hf, fetchRunning] at h
  split_ifs at h with hh
  · injection h with h
    exact .idle hh h.symm
  · have hh : s.halt = false := by simpa using hh
    cases ho : s.offered with
    | some w =>
      rw [ho] at h
      dsimp only [fetchOffered] at h
      cases hd : decodeSink w with
      | error e => rw [hd] at h; cases h
      | ok i =>
        rw [hd] at h
        obtain ⟨m, rfl⟩ := decodeSink_ofMsg hd
        exact .message m hh (by simp [ho]) h
    | none =>
      rw [ho] at h
      dsimp only [fetchScan] at h
      cases hw : scanWordAt s.pc with
      | none => rw [hw] at h; cases h
      | some w =>
        rw [hw] at h
        dsimp only at h
        cases hd : decodeScan w with
        | error e => rw [hd] at h; cases h
        | ok i =>
          rw [hd] at h
          exact .scan i hh (iter_at_pc hw hd) h

/-- A reset pulse at the start of a step ends it in the reset state; a later one is then a moment nearer. -/
theorem step_cases {s t : State} (h : step s = .next t) :
    ∃ rs, t = (s.setResets rs).afterReset ∨ Steps (s.setResets rs) t := by
  rcases hr : s.env.resets with _ | ⟨_ | n, later⟩
  · have hs : s.setResets [] = s := by rw [← hr]; rfl
    exact ⟨[], .inr (steps_of_fetch (by rw [hs, fetch_noReset hr]) h)⟩
  · have hf : fetch s = .reset (s.setResets later) := by rw [fetch, checkReset, hr]
    rw [step, hf] at h
    injection h with h
    exact ⟨later, .inl h.symm⟩
  · have hf : fetch s = fetchRunning (s.setResets (n :: later)) := by rw [fetch, checkReset, hr]
    exact ⟨n :: later, .inr (steps_of_fetch hf h)⟩

theorem step_noReset {s t : State} (hs : NoReset s) (h : step s = .next t) : Steps s t :=
  steps_of_fetch (fetch_noReset hs) h

theorem next_unique {o : Host.Outcome State Fault Refusal} {s t : State} (hs : o = .next s) (ht : o = .next t) :
    t = s := by
  rw [hs] at ht
  injection ht with ht
  exact ht.symm

end Sys2Proof.Machine

namespace Sys2Proof.Claims

open Sys2Proof.Machine Sys2Proof.Safety

/-! ## The shared operations at the head of an operation, when no pulse is coming -/

section Running

variable {s : State} (hs : NoReset s)
include hs

theorem runOp_poll_bind (p : Fin 11) (f : Edge → Op Unit) :
    runOp (poll p >>= f) s = runOp (f (edgeOf (fileGet s.prev p) s.levelNow)) (polled p s) :=
  runOp_bind_ok (poll_apply hs p)

theorem runOp_rdpin_bind (p : Fin 11) (f : Level → Op Unit) :
    runOp (rdpin p >>= f) s = runOp (f s.levelNow) (lineRead p s) :=
  runOp_bind_ok (rdpin_apply hs p)

theorem runOp_acquire_bind (i : Fin 7) (f : Raw → Op Unit) :
    runOp (acquire i >>= f) s = runOp (f s.sampleNow) (acquired i s) := by
  rw [runOp_bind_ok (acquire_apply hs i)]
  simp [acquired, State.setSel, State.log, State.tookSample, selValue]

theorem runOp_shout_bind (c : Fin 3) (b : Byte) (f : Unit → Op Unit) :
    runOp (shout c b >>= f) s = runOp (f ()) (framed c b s) := by
  rw [runOp_bind_ok (shout_apply hs c b), State.log, runPins_trace]
  rfl

theorem runOp_showLeds_bind (mask : Byte) (f : Unit → Op Unit) :
    runOp (showLeds mask >>= f) s = runOp (f ()) (lit mask s) := by
  rw [runOp_bind_ok (showLeds_apply hs mask), State.log, runPins_trace]
  rfl

/-- A send and what follows it (R215, R234). -/
theorem runOp_send_bind (m : Msg) {f : Unit → Op Unit} {after : State → State}
    (hf : ∀ t, NoReset t → runOp (f ()) t = .next (after t)) :
    runOp (send m >>= f) s = .next (sending m s after) := by
  by_cases hfail : s.failNow = true
  · rw [runOp_exc (Op.bind_error (by rw [send_apply hs, if_pos hfail])), sending, if_pos hfail]
    rfl
  · rw [runOp_bind_ok (by rw [send_apply hs, if_neg hfail]), hf _ (by exact hs), sending, if_neg hfail]
    rfl

theorem runOp_sendIfChanged_advance (c : Fin 9) (ctrl q : Q) :
    runOp (sendIfChanged c ctrl q >>= fun _ => advance) s = .next (reported c ctrl q s) := by
  by_cases hl : fileGet s.last c = some q
  · rw [runOp_bind_ok (sendIfChanged_same ctrl hl), reported, if_pos hl]
    rfl
  · have hd : sendIfChanged c ctrl q s = report c ctrl q s := by
      simp [sendIfChanged, Op.bind_apply, differs_eq_true hl]
    have hr : runOp (sendIfChanged c ctrl q >>= fun _ => advance) s =
        runOp (report c ctrl q >>= fun _ => advance) s := by
      rw [runOp, runOp, Op.bind_apply, Op.bind_apply, hd]
    rw [hr, reported, if_neg hl, report, bind_assoc]
    exact runOp_send_bind hs _ fun t _ => rfl

/-- R166 from the captured reference on: the move, if any, and the record of the gate. -/
theorem runOp_deltaHeld_bind (j : Fin 2) (raw : Raw) (ref : Option Raw) {f : Unit → Op Unit} {after : State → State}
    (hf : ∀ t, NoReset t → runOp (f ()) t = .next (after t)) :
    runOp (deltaHeld j raw true ref (fileGet s.acc j) >>= f) s =
      .next (match ref with
        | none => after s
        | some r =>
          let cand := clampQ ((fileGet s.acc j).toNat + deltaStep r raw)
          if deltaStep r raw = 0 ∨ cand = fileGet s.acc j then after s
          else
            sending (.cc (Config.deltaCc j) cand) s fun u =>
              after { u with acc := fileSet u.acc j cand, ref := fileSet u.ref j (some raw) }) := by
  cases ref with
  | none => exact hf s hs
  | some r =>
    simp only [deltaHeld, deltaTry]
    by_cases hd : deltaStep r raw = 0 ∨ clampQ ((fileGet s.acc j).toNat + deltaStep r raw) = fileGet s.acc j
    · rw [if_pos hd, if_neg (by tauto)]
      exact hf s hs
    · rw [if_neg hd, if_pos (by tauto), deltaMove, bind_assoc]
      exact runOp_send_bind hs _ fun t ht => hf _ ht

omit hs in
theorem deltaCapture_held (j : Fin 2) (raw : Raw) (was : Bool) :
    deltaCapture j raw true was s =
      .ok () (s.setRef j (if was = false then some raw else fileGet s.ref j)) := by
  cases was
  · rfl
  · simp [deltaCapture, State.setRef]

/-- R166. -/
theorem runOp_delta_bind (j : Fin 2) (raw : Raw) {f : Unit → Op Unit} {after : State → State}
    (hf : ∀ t, NoReset t → runOp (f ()) t = .next (after t)) :
    runOp (delta j raw >>= f) s = .next (deltaScanned j (gatePin j) (Config.deltaCc j) raw s after) := by
  have hrecord : ∀ (g : Bool) (t : State), NoReset t →
      runOp ((Op.write fun s => s.setGwp j g) >>= f) t = .next (after (t.setGwp j g)) := fun g t ht => hf _ ht
  simp only [delta, bind_assoc]
  rw [runOp_rdpin_bind hs, runOp_read, deltaScanned]
  by_cases hl : s.levelNow = low
  · rw [if_pos hl, hl, gatePressed, beq_self_eq_true, runOp_bind_ok (deltaCapture_held ..), runOp_read, runOp_read,
      runOp_deltaHeld_bind (by exact hs) j raw _ (hrecord true), State.setRef_ref, fileGet_fileSet_same,
      show (lineRead (gatePin j) s).gwp = s.gwp from rfl, show (lineRead (gatePin j) s).ref = s.ref from rfl]
    generalize (if fileGet s.gwp j = false then some raw else fileGet s.ref j) = captured
    cases captured <;> rfl
  · have hg : gatePressed s.levelNow = false := by simpa [gatePressed] using hl
    rw [if_neg hl, hg]
    exact hrecord false _ hs

end Running

/-! ## The whole effect of each instruction, when no pulse is coming -/

theorem framed_noReset {c : Fin 3} {b : Byte} {s : State} (hs : NoReset s) : NoReset (framed c b s) := by
  simpa [framed] using hs

theorem edgeOf_eq_press {prev cur : Level} : edgeOf prev cur = .press ↔ prev = high ∧ cur = low := by
  cases prev <;> cases cur <;> decide

theorem edgeOf_eq_release {prev cur : Level} : edgeOf prev cur = .release ↔ prev = low ∧ cur = high := by
  cases prev <;> cases cur <;> decide

/-- R183 on one LED. -/
theorem ledMask_singleton (i : Fin 8) : ledMask [i.val] = 1#8 <<< i.val := by
  revert i
  decide

section Exec

variable {s : State} (hs : NoReset s)
include hs

theorem exec_refresh_eq : exec .refresh s = .next (refreshed Config.tables s) := by
  show runOp (opRefresh Config.tables) s = _
  rw [opRefresh, runOp_read, runOp_read, redrawIfChanged, refreshed]
  by_cases h : s.shown = some s.mode
  · rw [if_pos h, h]
    simp [differs]
    rfl
  · rw [if_neg h, differs_eq_true h, if_pos rfl]
    simp only [redraw, bind_assoc]
    rw [runOp_write, runOp_shout_bind (by exact hs), runOp_shout_bind (framed_noReset (by exact hs)),
      runOp_showLeds_bind (framed_noReset (framed_noReset (by exact hs))), runOp_write]
    rfl

theorem exec_modeb_eq : exec .modeb s = .next (modeScanned s) := by
  show runOp opModeb s = _
  rw [opModeb, runOp_poll_bind hs, modeScanned, modeEdge, show modePin = 8 from rfl]
  by_cases h : Pressing 8 s
  · rw [if_pos h, if_pos (edgeOf_eq_press.mpr h)]
    rfl
  · rw [if_neg h, if_neg fun e => h (edgeOf_eq_press.mp e)]
    rfl

theorem exec_enc_eq (side : Fin 2) :
    exec (.enc side) s = .next (encScanned (encPin side) (Config.encVal side) s) := by
  rw [exec_enc, opEnc, runOp_read, encPoll, encScanned]
  by_cases hm : s.mode = 2
  · rw [if_pos hm, if_pos hm, bind_assoc, runOp_poll_bind hs, encEdge]
    by_cases h : Pressing (encPin side) s
    · rw [if_pos h, if_pos (edgeOf_eq_press.mpr h)]
      exact runOp_send_bind (by exact hs) _ (after := nextPosition) fun _ _ => rfl
    · rw [if_neg h, if_neg fun e => h (edgeOf_eq_press.mp e)]
      rfl
  · rw [if_neg hm, if_neg hm]
    rfl

theorem exec_mux_eq {i : Fin 7} (hi : i ≠ 0) : exec (.mux i) s = .next (muxScanned i s) := by
  rw [exec_mux i hi, opMux, runOp_acquire_bind hs, runOp_sendIfChanged_advance (by exact hs)]
  rfl

theorem exec_mux0_eq : exec .mux0 s = .next (mux0Scanned Config.tables s) := by
  show runOp (opMux0 Config.tables) s = _
  rw [opMux0, runOp_acquire_bind hs, runOp_read, channelZero, mux0Scanned]
  by_cases hm : s.mode = 1
  · rw [if_pos hm, if_pos (by exact hm), bind_assoc]
    exact runOp_delta_bind (by exact hs) 0 _ fun t ht => runOp_delta_bind ht 1 _ fun _ _ => rfl
  · rw [if_neg hm, if_neg (by exact hm)]
    exact runOp_sendIfChanged_advance (by exact hs) ..

theorem exec_dir_eq (j : Fin 2) : exec (.dir j) s = .next (dirScanned j s) := by
  have hsrc : dirSource j = if j = 0 then .adir0 else .adir1 := by fin_cases j <;> rfl
  have hcc : dirCc j = BitVec.ofNat 7 (8 + j.val) := by fin_cases j <;> rfl
  rw [exec_dir, opDir, runOp_bind_ok (sample_apply hs _), runOp_sendIfChanged_advance (by exact hs), hsrc, hcc]
  rfl

theorem exec_sleep_eq : exec .sleep s = .next (slept s) :=
  runOp_bind_ok (delay_apply hs _)

theorem exec_ofMsg_eq (m : Msg) : exec (.ofMsg m) s = .next (sending m s id) := by
  rw [exec_ofMsg, ← bind_pure (send m)]
  exact runOp_send_bind hs m fun _ _ => rfl

/-- R126: a key's message, its indicator write in the modes that have one, and `PC`. -/
theorem runOp_send_light (m : Msg) (mask : Byte) {lights : Bool} {c : Prop} [Decidable c] (hc : lights = true ↔ c) :
    runOp ((send m >>= fun _ => if lights then showLeds mask else pure ()) >>= fun _ => advance) s =
      .next (sending m s fun t => nextPosition (if c then lit mask t else t)) := by
  rw [bind_assoc]
  refine runOp_send_bind hs m fun t ht => ?_
  by_cases h : c
  · rw [if_pos h, if_pos (hc.mpr h), runOp_showLeds_bind ht]
    rfl
  · rw [if_neg h, if_neg (mt hc.mp h)]
    rfl

theorem exec_key_eq (k : Fin 8) : exec (.key k) s = .next (keyScanned Config.tables k s) := by
  have hg : guarded s.mode k = true ↔ s.mode = 1 ∧ (k = 0 ∨ k = 3) := by
    simp [guarded, Config.gateKey]
  have hp : pressLights s.mode = true ↔ s.mode = 0 ∨ s.mode = 3 ∨ s.mode = 4 := by
    simp [pressLights]
  have hr : releaseRestores s.mode = true ↔ s.mode ≠ 1 ∧ s.mode ≠ 2 ∧ s.mode ≠ 5 ∧ s.mode ≠ 6 := by
    simp [releaseRestores]
  rw [exec_key, opKey, runOp_poll_bind hs, runOp_read, keyScanned, show (polled (keyPin k) s).mode = s.mode from rfl]
  unfold keyEdge
  by_cases hgd : s.mode = 1 ∧ (k = 0 ∨ k = 3)
  · rw [if_pos hgd, if_pos (hg.mpr hgd)]
    rfl
  rw [if_neg hgd, if_neg (mt hg.mp hgd)]
  by_cases hpr : Pressing (keyPin k) s
  · rw [if_pos hpr, edgeOf_eq_press.mpr hpr, ← ledMask_singleton]
    exact runOp_send_light (by exact hs) _ _ hp
  rw [if_neg hpr]
  by_cases hrl : Releasing (keyPin k) s
  · rw [if_pos hrl, edgeOf_eq_release.mpr hrl]
    exact runOp_send_light (by exact hs) _ _ hr
  · rw [if_neg hrl]
    cases he : edgeOf (fileGet s.prev (keyPin k)) s.levelNow with
    | none => rfl
    | press => exact absurd (edgeOf_eq_press.mp he) hpr
    | release => exact absurd (edgeOf_eq_release.mp he) hrl

end Exec

/-! ## What an operation leaves behind -/

/-- `t` is `s` but for `PC`, `HALT` and what passes between the block and its environment. -/
def TalksOnly (s t : State) : Prop :=
  t = { s with pc := t.pc, halt := t.halt, sinkMsg := t.sinkMsg, env := t.env, trace := t.trace }

theorem TalksOnly.trans {s t u : State} (h₁ : TalksOnly s t) (h₂ : TalksOnly t u) : TalksOnly s u := by
  rw [TalksOnly, h₂, h₁]

/-- R112, R234: `t` is halted at the position of `s`, or at the next one and halted as `s` is. -/
def Sequenced (s t : State) : Prop :=
  (t.halt = true ∧ t.pc = s.pc) ∨ (t.halt = s.halt ∧ t.pc = s.pc + 1#5)

/-- An operation of `s` that came to `u`, still at its own position, ends in `t`: in `u` itself when a send failed,
otherwise where the rest of it leads. -/
def Continued (rest : State → State) (s u t : State) : Prop :=
  u.pc = s.pc ∧ ((u.halt = true ∧ t = u) ∨ (u.halt = s.halt ∧ t = rest u))

theorem continued_halted {rest : State → State} {s u : State} (hpc : u.pc = s.pc) (h : u.halt = true) :
    Continued rest s u u :=
  ⟨hpc, .inl ⟨h, rfl⟩⟩

theorem continued_went {rest : State → State} {s u : State} (hpc : u.pc = s.pc) (h : u.halt = s.halt) :
    Continued rest s u (rest u) :=
  ⟨hpc, .inr ⟨h, rfl⟩⟩

theorem Continued.sequenced {rest : State → State} {s u t : State} (h : Continued rest s u t)
    (hrest : Sequenced u (rest u)) : Sequenced s t := by
  obtain ⟨hpc, ⟨hh, rfl⟩ | ⟨hh, rfl⟩⟩ := h
  · exact .inl ⟨hh, hpc⟩
  · rwa [Sequenced, hpc, hh] at hrest

theorem Continued.elim {P : State → Prop} {rest : State → State} {s u t : State} (h : Continued rest s u t)
    (hu : P u) (hrest : P (rest u)) : P t := by
  obtain ⟨-, ⟨-, rfl⟩ | ⟨-, rfl⟩⟩ := h
  · exact hu
  · exact hrest

theorem sequenced_nextPosition (s : State) : Sequenced s (nextPosition s) := .inr ⟨rfl, rfl⟩

theorem nextPosition_talksOnly (s : State) : TalksOnly s (nextPosition s) := rfl

/-- `t` is `s` but for `IND`, the pins with what they drive, and the events. -/
def ShiftsOnly (s t : State) : Prop :=
  t = { s with ind := t.ind, data := t.data, clk := t.clk, latch := t.latch, ext := t.ext, trace := t.trace }

theorem ShiftsOnly.trans {s t u : State} (h₁ : ShiftsOnly s t) (h₂ : ShiftsOnly t u) : ShiftsOnly s u := by
  rw [ShiftsOnly, h₂, h₁]

theorem runPins_shiftsOnly (ws : List PinWrite) (s : State) : ShiftsOnly s (runPins ws s) := by
  rw [ShiftsOnly, runPins_ind, runPins_trace]
  exact runPins_eq ws s

theorem framed_shiftsOnly (c : Fin 3) (b : Byte) (s : State) : ShiftsOnly s (framed c b s) := by
  have hevent : ∀ t : State, ShiftsOnly t { t with trace := s.trace ++ [.shout c b] } := fun _ => rfl
  exact (runPins_shiftsOnly _ s).trans (hevent _)

theorem lit_shiftsOnly (mask : Byte) (s : State) : ShiftsOnly s (lit mask s) :=
  ShiftsOnly.trans (t := { s with ind := mask }) rfl (framed_shiftsOnly 2 mask _)

theorem ShiftsOnly.next {s t : State} (h : ShiftsOnly s t) : ShiftsOnly (nextPosition s) (nextPosition t) := by
  rw [h]
  rfl

theorem ShiftsOnly.sequenced {s t : State} (h : ShiftsOnly (nextPosition s) t) : Sequenced s t := by
  rw [h]
  exact .inr ⟨rfl, rfl⟩

/-! ## What each operation can do -/

theorem sending_cases (m : Msg) (s : State) (rest : State → State) :
    ∃ u, Continued rest s u (sending m s rest) ∧ TalksOnly s u := by
  rw [sending]
  split
  · exact ⟨_, continued_halted rfl rfl, rfl⟩
  · exact ⟨_, continued_went rfl rfl, rfl⟩

theorem reported_cases (c : Fin 9) (ctrl q : Q) (s : State) :
    ∃ l, TalksOnly { s with last := fileSet s.last c l } (reported c ctrl q s) ∧ Sequenced s (reported c ctrl q s) := by
  rw [reported, sending]
  split_ifs
  · exact ⟨fileGet s.last c, by rw [fileSet_fileGet]; rfl, sequenced_nextPosition s⟩
  · exact ⟨fileGet s.last c, by rw [fileSet_fileGet]; rfl, .inl ⟨rfl, rfl⟩⟩
  · exact ⟨some q, rfl, .inr ⟨rfl, rfl⟩⟩

theorem encScanned_cases (p : Fin 11) (val : Q) (s : State) :
    TalksOnly { s with prev := if s.mode = 2 then fileSet s.prev p s.levelNow else s.prev } (encScanned p val s) ∧
      Sequenced s (encScanned p val s) := by
  rw [encScanned]
  by_cases hm : s.mode = 2
  · rw [if_pos hm, if_pos hm]
    have hpoll : TalksOnly { s with prev := fileSet s.prev p s.levelNow } (polled p s) := rfl
    split
    · obtain ⟨u, hc, hu⟩ := sending_cases (.cc 10#7 val) (polled p s) nextPosition
      exact ⟨hc.elim (hpoll.trans hu) ((hpoll.trans hu).trans rfl), hc.sequenced (sequenced_nextPosition u)⟩
    · exact ⟨hpoll.trans rfl, sequenced_nextPosition s⟩
  · rw [if_neg hm, if_neg hm]
    exact ⟨rfl, sequenced_nextPosition s⟩

/-- R126: what follows a key's message, the indicator's write or nothing, and `PC`. -/
def AfterKeyMessage (rest : State → State) : Prop :=
  rest = nextPosition ∨ ∃ mask, rest = fun t => nextPosition (lit mask t)

theorem afterKeyMessage_ite (c : Prop) [Decidable c] (mask : Byte) :
    AfterKeyMessage fun t => nextPosition (if c then lit mask t else t) := by
  by_cases h : c
  · simp only [if_pos h]
    exact .inr ⟨mask, rfl⟩
  · simp only [if_neg h]
    exact .inl rfl

theorem keyScanned_cases (T : Config.Tables) (k : Fin 8) (s : State) :
    ∃ u rest, AfterKeyMessage rest ∧ Continued rest s u (keyScanned T k s) ∧
      TalksOnly { s with prev := fileSet s.prev (keyPin k) s.levelNow } u := by
  have hpoll : TalksOnly { s with prev := fileSet s.prev (keyPin k) s.levelNow } (polled (keyPin k) s) := rfl
  have hquiet : Continued nextPosition s (polled (keyPin k) s) (nextPosition (polled (keyPin k) s)) :=
    continued_went rfl rfl
  have hsend : ∀ (m : Msg) (rest : State → State), AfterKeyMessage rest →
      ∃ u rest', AfterKeyMessage rest' ∧ Continued rest' s u (sending m (polled (keyPin k) s) rest) ∧
        TalksOnly { s with prev := fileSet s.prev (keyPin k) s.levelNow } u := fun m rest hr =>
    let ⟨u, hc, hu⟩ := sending_cases m (polled (keyPin k) s) rest
    ⟨u, rest, hr, hc, hpoll.trans hu⟩
  rw [keyScanned]
  by_cases hg : s.mode = 1 ∧ (k = 0 ∨ k = 3)
  · rw [if_pos hg]
    exact ⟨_, _, .inl rfl, hquiet, hpoll⟩
  rw [if_neg hg]
  by_cases hp : Pressing (keyPin k) s
  · rw [if_pos hp]
    exact hsend _ _ (afterKeyMessage_ite ..)
  rw [if_neg hp]
  by_cases hr : Releasing (keyPin k) s
  · rw [if_pos hr]
    exact hsend _ _ (afterKeyMessage_ite ..)
  · rw [if_neg hr]
    exact ⟨_, _, .inl rfl, hquiet, hpoll⟩

theorem AfterKeyMessage.sequenced {rest : State → State} (h : AfterKeyMessage rest) (s : State) :
    Sequenced s (rest s) := by
  obtain rfl | ⟨mask, rfl⟩ := h
  · exact sequenced_nextPosition s
  · exact (lit_shiftsOnly mask s).next.sequenced

/-- What key k writes: its own sample, and the indicator with its pins. -/
def KeyWrites (k : Fin 8) (s t : State) : Prop :=
  TalksOnly
    { s with
      prev := fileSet s.prev (keyPin k) s.levelNow
      ind := t.ind, data := t.data, clk := t.clk, latch := t.latch, ext := t.ext } t

theorem KeyWrites.next {k : Fin 8} {s t : State} (h : KeyWrites k s t) : KeyWrites k s (nextPosition t) :=
  TalksOnly.trans h (nextPosition_talksOnly t)

theorem keyScanned_writes (T : Config.Tables) (k : Fin 8) (s : State) : KeyWrites k s (keyScanned T k s) := by
  obtain ⟨u, rest, hrest, hc, hu⟩ := keyScanned_cases T k s
  have hwrites : ∀ v, ShiftsOnly u v → KeyWrites k s v := fun v hv => by rw [KeyWrites, TalksOnly, hv, hu]
  refine hc.elim (hwrites u rfl) ?_
  obtain rfl | ⟨mask, rfl⟩ := hrest
  · exact (hwrites u rfl).next
  · exact (hwrites _ (lit_shiftsOnly mask u)).next

theorem keyScanned_sequenced (T : Config.Tables) (k : Fin 8) (s : State) : Sequenced s (keyScanned T k s) :=
  let ⟨u, _, hrest, hc, _⟩ := keyScanned_cases T k s
  hc.sequenced (hrest.sequenced u)

theorem modeScanned_cases (s : State) :
    ∃ m, (m = s.mode ∨ m = nextMode s.mode) ∧ modeScanned s = nextPosition { polled 8 s with mode := m } := by
  by_cases h : Pressing 8 s
  · exact ⟨_, .inr rfl, if_pos h⟩
  · exact ⟨_, .inl rfl, if_neg h⟩

/-- R181: the frames of a redraw with digits l and r, up to `SHOWN`. -/
def redrawn (T : Config.Tables) (l r : Fin 17) (mask : Byte) (s : State) : State :=
  lit mask (framed 1 (segLookup T r.val) (framed 0 (segLookup T l.val) { s with digL := l, digR := r }))

theorem refreshed_of_stale (T : Config.Tables) {s : State} (h : s.shown ≠ some s.mode) :
    refreshed T s = nextPosition
      { redrawn T (fileGet T.disp s.mode).1 (fileGet T.disp s.mode).2 (ledMask (fileGet T.modeLeds s.mode)) s with
        shown := some s.mode } :=
  if_neg h

theorem redrawn_shiftsOnly (T : Config.Tables) (l r : Fin 17) (mask : Byte) (s : State) :
    ShiftsOnly { s with digL := l, digR := r } (redrawn T l r mask s) :=
  ((framed_shiftsOnly ..).trans (framed_shiftsOnly ..)).trans (lit_shiftsOnly ..)

theorem refreshed_frame (T : Config.Tables) (s : State) :
    ∃ l r, ShiftsOnly (nextPosition { s with shown := some s.mode, digL := l, digR := r }) (refreshed T s) := by
  by_cases h : s.shown = some s.mode
  · exact ⟨s.digL, s.digR, by rw [← h, refreshed, if_pos h]; rfl⟩
  · have hshown : ∀ l r u, ShiftsOnly { s with digL := l, digR := r } u →
        ShiftsOnly { s with shown := some s.mode, digL := l, digR := r } { u with shown := some s.mode } :=
      fun l r u hu => by rw [hu]; rfl
    rw [refreshed_of_stale T h]
    exact ⟨_, _, (hshown _ _ _ (redrawn_shiftsOnly ..)).next⟩

/-- R168: entry j may be recorded once its reference is set. -/
theorem gateHasReference_setRef {s u : State} (h : GateHasReference s) {j : Fin 2} {r : Raw} {g : Bool}
    (hr : u.ref = fileSet s.ref j (some r)) (hg : u.gwp = fileSet s.gwp j g) : GateHasReference u := by
  intro i
  rw [hr, hg, fileGet_fileSet, fileGet_fileSet]
  split
  · exact fun _ => rfl
  · exact h i

theorem gateHasReference_release {s u : State} (h : GateHasReference s) {j : Fin 2}
    (hr : u.ref = s.ref) (hg : u.gwp = fileSet s.gwp j false) : GateHasReference u := by
  intro i
  rw [hr, hg, fileGet_fileSet]
  split
  · exact fun hi => absurd hi (by decide)
  · exact h i

theorem deltaScanned_cases (j : Fin 2) (p : Fin 11) (ctrl : Q) (raw : Raw) (s : State) (rest : State → State) :
    ∃ u, Continued rest s u (deltaScanned j p ctrl raw s rest) ∧
      TalksOnly { s with acc := u.acc, ref := u.ref, gwp := u.gwp } u ∧
      (GateHasReference s → GateHasReference u) := by
  rw [deltaScanned]
  by_cases hl : s.levelNow = low
  · rw [if_pos hl]
    have hset : GateHasReference s → (if fileGet s.gwp j = false then some raw else fileGet s.ref j).isSome = true := by
      intro h
      by_cases hg : fileGet s.gwp j = false
      · rw [if_pos hg]
        rfl
      · rw [if_neg hg]
        exact h j (by simpa using hg)
    generalize (if fileGet s.gwp j = false then some raw else fileGet s.ref j) = captured at hset ⊢
    cases captured with
    | none => exact ⟨_, continued_went rfl rfl, rfl, fun h => absurd (hset h) (by decide)⟩
    | some r =>
      simp only [sending]
      split_ifs
      · exact ⟨_, continued_went rfl rfl, rfl, fun h => gateHasReference_setRef h rfl rfl⟩
      · exact ⟨_, continued_halted rfl rfl, rfl, fun h => gateHasReference_setRef h rfl (fileSet_fileGet s.gwp j).symm⟩
      · exact ⟨_, continued_went rfl rfl, rfl, fun h => gateHasReference_setRef h (fileSet_fileSet_same ..) rfl⟩
  · rw [if_neg hl]
    exact ⟨_, continued_went rfl rfl, rfl, fun h => gateHasReference_release h rfl rfl⟩

/-- R150, R166: `MUX0` in mode 1 writes the delta files, and a gate it records has its reference. -/
theorem mux0Scanned_delta (T : Config.Tables) {s : State} (hm : s.mode = 1) :
    (∃ acc ref gwp, TalksOnly { s with sel := 0#3, acc := acc, ref := ref, gwp := gwp } (mux0Scanned T s)) ∧
      (GateHasReference s → GateHasReference (mux0Scanned T s)) ∧ Sequenced s (mux0Scanned T s) := by
  rw [mux0Scanned, if_pos hm]
  obtain ⟨u, ⟨hpc, hu⟩, htalk, hgate⟩ := deltaScanned_cases 0 0 1#7 s.sampleNow (acquired 0 s)
    fun t => deltaScanned 1 3 30#7 s.sampleNow t nextPosition
  have hfirst : TalksOnly { s with sel := 0#3, acc := u.acc, ref := u.ref, gwp := u.gwp } u :=
    TalksOnly.trans (by rfl) htalk
  obtain ⟨hh, he⟩ | ⟨hh, he⟩ := hu
  · rw [he]
    exact ⟨⟨_, _, _, hfirst⟩, hgate, .inl ⟨hh, hpc⟩⟩
  · beta_reduce at he
    rw [he]
    obtain ⟨v, hc, htalk', hgate'⟩ := deltaScanned_cases 1 3 30#7 s.sampleNow u nextPosition
    have hsecond : TalksOnly { s with sel := 0#3, acc := v.acc, ref := v.ref, gwp := v.gwp } v := by
      rw [hfirst] at htalk'
      exact htalk'
    have hseq := hc.sequenced (sequenced_nextPosition v)
    rw [Sequenced, hpc, hh] at hseq
    exact ⟨⟨_, _, _, hc.elim hsecond (hsecond.trans rfl)⟩,
      fun h => hc.elim (hgate' (hgate h)) (hgate' (hgate h)), hseq⟩

theorem mux0Scanned_quantized (T : Config.Tables) {s : State} (hm : s.mode ≠ 1) :
    ∃ l, TalksOnly { s with sel := 0#3, last := fileSet s.last 0 l } (mux0Scanned T s) ∧
      Sequenced s (mux0Scanned T s) := by
  rw [mux0Scanned, if_neg hm]
  obtain ⟨l, ht, hseq⟩ := reported_cases 0 (fileGet T.ch0Cc s.mode) (quant s.sampleNow) (acquired 0 s)
  exact ⟨l, TalksOnly.trans (by rfl) ht, hseq⟩

/-! ## What each instruction can do -/

/-- What an instruction can make of `s` when no pulse of `RST` is coming: the registers it may write, and how `PC`
moves. -/
inductive Effect (s t : State) : Instr → Prop
  | refresh (l r : Fin 17)
      (ht : ShiftsOnly (nextPosition { s with shown := some s.mode, digL := l, digR := r }) t) : Effect s t .refresh
  | key (k : Fin 8) (ht : KeyWrites k s t) (hseq : Sequenced s t) : Effect s t (.key k)
  | modeb (m : Mode) (ht : t = nextPosition { polled 8 s with mode := m }) : Effect s t .modeb
  | mux0Delta (hm : s.mode = 1) (acc : Vector Q 2) (ref : Vector (Option Raw) 2) (gwp : Vector Bool 2)
      (ht : TalksOnly { s with sel := 0#3, acc := acc, ref := ref, gwp := gwp } t) (hseq : Sequenced s t) :
      Effect s t .mux0
  | mux (i : Fin 7) (hm : i = 0 → s.mode ≠ 1) (l : Option Q)
      (ht : TalksOnly { s with sel := selValue i, last := fileSet s.last (muxChannel i) l } t) (hseq : Sequenced s t) :
      Effect s t (.mux i)
  | dir (j : Fin 2) (l : Option Q) (ht : TalksOnly { s with last := fileSet s.last (dirChannel j) l } t)
      (hseq : Sequenced s t) : Effect s t (.dir j)
  | enc (e : Fin 2)
      (ht : TalksOnly { s with prev := if s.mode = 2 then fileSet s.prev (encPin e) s.levelNow else s.prev } t)
      (hseq : Sequenced s t) : Effect s t (.enc e)
  | sleep (ht : TalksOnly s t) : Effect s t .sleep
  | message (m : Msg) (ht : TalksOnly s t) : Effect s t (.ofMsg m)

theorem exec_has_effect (i : Instr) {s : State} (hs : NoReset s) : ∃ t, exec i s = .next t ∧ Effect s t i := by
  obtain rfl | ⟨k, rfl⟩ | rfl | ⟨i, rfl⟩ | ⟨j, rfl⟩ | ⟨e, rfl⟩ | rfl | ⟨m, rfl⟩ := instr_kinds i
  · obtain ⟨l, r, ht⟩ := refreshed_frame Config.tables s
    exact ⟨_, exec_refresh_eq hs, .refresh l r ht⟩
  · exact ⟨_, exec_key_eq hs k, .key k (keyScanned_writes ..) (keyScanned_sequenced ..)⟩
  · obtain ⟨m, -, ht⟩ := modeScanned_cases s
    exact ⟨_, exec_modeb_eq hs, .modeb m ht⟩
  · by_cases hi : i = 0
    · subst hi
      refine ⟨_, exec_mux0_eq hs, ?_⟩
      by_cases hm : s.mode = 1
      · obtain ⟨⟨acc, ref, gwp, ht⟩, -, hseq⟩ := mux0Scanned_delta Config.tables hm
        exact .mux0Delta hm acc ref gwp ht hseq
      · obtain ⟨l, ht, hseq⟩ := mux0Scanned_quantized Config.tables hm
        exact .mux 0 (fun _ => hm) l ht hseq
    · obtain ⟨l, ht, hseq⟩ := reported_cases (muxChannel i) (BitVec.ofNat 7 (i.val + 1)) (quant s.sampleNow)
        (acquired i s)
      exact ⟨_, exec_mux_eq hs hi, .mux i (fun h => absurd h hi) l (TalksOnly.trans (by rfl) ht) hseq⟩
  · obtain ⟨l, ht, hseq⟩ := reported_cases (dirChannel j) (BitVec.ofNat 7 (8 + j.val)) (quant s.sampleNow) _
    exact ⟨_, exec_dir_eq hs j, .dir j l (TalksOnly.trans (by rfl) ht) hseq⟩
  · obtain ⟨ht, hseq⟩ := encScanned_cases (encPin e) (Config.encVal e) s
    exact ⟨_, exec_enc_eq hs e, .enc e ht hseq⟩
  · exact ⟨_, exec_sleep_eq hs, .sleep rfl⟩
  · obtain ⟨u, hc, hu⟩ := sending_cases m s id
    exact ⟨_, exec_ofMsg_eq hs m, .message m (hc.elim hu hu)⟩

theorem exec_effect {i : Instr} {s t : State} (hs : NoReset s) (h : exec i s = .next t) : Effect s t i := by
  obtain ⟨u, hu, he⟩ := exec_has_effect i hs
  exact next_unique hu h ▸ he

theorem exec_ofMsg_pc {m : Msg} {s t : State} (hs : NoReset s) (h : exec (.ofMsg m) s = .next t) : t.pc = s.pc := by
  obtain ⟨u, hc, -⟩ := sending_cases m s id
  rw [next_unique (exec_ofMsg_eq hs m) h]
  exact hc.elim (P := fun t => t.pc = s.pc) hc.1 hc.1

/-- R112, R234: a scan operation other than `SLEEP` moves `PC` on by one, or halts where it is. -/
theorem exec_sequenced {i : Instr} {s t : State} (hs : NoReset s) (h : exec i s = .next t) (hsleep : i ≠ .sleep)
    (hmsg : ∀ m, i ≠ .ofMsg m) : Sequenced s t := by
  cases exec_effect hs h with
  | refresh l r ht => exact ht.sequenced
  | modeb m ht => exact ht ▸ .inr ⟨rfl, rfl⟩
  | key _ _ hseq | mux0Delta _ _ _ _ _ hseq | mux _ _ _ _ hseq | dir _ _ _ hseq | enc _ _ hseq => exact hseq
  | sleep ht => exact absurd rfl hsleep
  | message m ht => exact absurd rfl (hmsg m)

/-! ## O30, O31: who writes which register -/

theorem eq_of_fileGet_fileSet_ne {α : Type} {n : Nat} {file : Vector α n} {i j : Fin n} {v : α}
    (h : fileGet (fileSet file i v) j ≠ fileGet file j) : j = i := by
  by_contra hne
  exact h (fileGet_fileSet_ne file v (Ne.symm hne))

/-- Settles O30, clause by clause from what each instruction can write. -/
theorem controlRegistersWrittenOnlyBy : Obligations.ControlRegistersWrittenOnlyBy := by
  intro i s t hs h
  have hpc : (∃ m, i = Instr.ofMsg m) → t.pc = s.pc := by
    rintro ⟨m, rfl⟩
    exact exec_ofMsg_pc hs h
  cases exec_effect hs h with
  | refresh l r ht =>
    rw [ht] at hpc ⊢
    exact ⟨fun _ => rfl, fun h => absurd rfl h, fun h => absurd rfl h, fun _ => rfl, rfl, hpc⟩
  | key k ht =>
    rw [ht] at hpc ⊢
    exact ⟨fun _ => rfl, fun _ => ⟨rfl, rfl, rfl⟩, fun _ h => absurd rfl (h k), fun _ => rfl, rfl, hpc⟩
  | modeb m ht =>
    rw [ht] at hpc ⊢
    exact ⟨fun h => absurd rfl h, fun _ => ⟨rfl, rfl, rfl⟩, fun _ _ => ⟨rfl, rfl, rfl, rfl, rfl⟩, fun _ => rfl, rfl,
      hpc⟩
  | mux0Delta hm acc ref gwp ht =>
    rw [ht] at hpc ⊢
    exact ⟨fun _ => rfl, fun _ => ⟨rfl, rfl, rfl⟩, fun _ _ => ⟨rfl, rfl, rfl, rfl, rfl⟩, fun h => absurd rfl (h 0),
      rfl, hpc⟩
  | mux i hm l ht =>
    rw [ht] at hpc ⊢
    exact ⟨fun _ => rfl, fun _ => ⟨rfl, rfl, rfl⟩, fun _ _ => ⟨rfl, rfl, rfl, rfl, rfl⟩, fun h => absurd rfl (h i),
      rfl, hpc⟩
  | dir _ _ ht | enc _ ht | sleep ht | message _ ht =>
    rw [ht] at hpc ⊢
    exact ⟨fun _ => rfl, fun _ => ⟨rfl, rfl, rfl⟩, fun _ _ => ⟨rfl, rfl, rfl, rfl, rfl⟩, fun _ => rfl, rfl, hpc⟩

/-- Settles O31: an entry that changed is the one entry the instruction can write. -/
theorem filesWrittenOnlyBy : Obligations.FilesWrittenOnlyBy := by
  intro i s t hs h
  cases exec_effect hs h with
  | refresh _ _ ht | sleep ht | message _ ht =>
    rw [ht]
    exact ⟨fun _ h => absurd rfl h, fun _ h => absurd rfl h, fun _ => ⟨rfl, rfl, rfl⟩⟩
  | key k ht =>
    rw [ht]
    exact ⟨fun p h => .inl ⟨k, rfl, eq_of_fileGet_fileSet_ne h⟩, fun _ h => absurd rfl h, fun _ => ⟨rfl, rfl, rfl⟩⟩
  | modeb m ht =>
    rw [ht]
    exact ⟨fun p h => .inr (.inl ⟨rfl, eq_of_fileGet_fileSet_ne h⟩), fun _ h => absurd rfl h,
      fun _ => ⟨rfl, rfl, rfl⟩⟩
  | mux0Delta hm acc ref gwp ht =>
    rw [ht]
    exact ⟨fun _ h => absurd rfl h, fun _ h => absurd rfl h, fun h => absurd hm (h.resolve_left (absurd rfl))⟩
  | mux i hm l ht =>
    rw [ht]
    exact ⟨fun _ h => absurd rfl h, fun c h => .inl ⟨i, rfl, eq_of_fileGet_fileSet_ne h, hm⟩,
      fun _ => ⟨rfl, rfl, rfl⟩⟩
  | dir j l ht =>
    rw [ht]
    exact ⟨fun _ h => absurd rfl h, fun c h => .inr ⟨j, rfl, eq_of_fileGet_fileSet_ne h⟩, fun _ => ⟨rfl, rfl, rfl⟩⟩
  | enc e ht =>
    rw [ht]
    refine ⟨fun p h => ?_, fun _ h => absurd rfl h, fun _ => ⟨rfl, rfl, rfl⟩⟩
    by_cases hm : s.mode = 2
    · simp only [if_pos hm] at h
      exact .inr (.inr ⟨e, rfl, eq_of_fileGet_fileSet_ne h, hm⟩)
    · simp only [if_neg hm] at h
      exact absurd rfl h

/-! ## O9: the order of the steps -/

theorem iter_ne_ofMsg {n : Nat} {i : Instr} (h : iter[n]? = some i) (m : Msg) : i ≠ .ofMsg m := by
  have hscan : ∀ j ∈ iter, ∃ w, encode j = .scan w := by simp [iter, dscan, ascan, xscan, encode]
  obtain ⟨w, hw⟩ := hscan i (List.mem_of_getElem? h)
  rintro rfl
  cases m <;> cases hw

theorem iter_refresh_iff : ∀ pc : BitVec 5, iter[pc.toNat]? = some .refresh ↔ pc = 0#5 := by decide

theorem iter_modeb_iff : ∀ pc : BitVec 5, iter[pc.toNat]? = some .modeb ↔ pc = 9#5 := by decide

theorem iter_sleep_iff : ∀ pc : BitVec 5, iter[pc.toNat]? = some .sleep ↔ pc = 21#5 := by decide

/-- Settles O9: the operation at `PC` is `SLEEP` exactly at 21, and every other one is sequenced. -/
theorem sequencingOfSteps : Obligations.SequencingOfSteps := by
  rintro s t hs ⟨hh, hoff⟩ h
  cases step_noReset hs h with
  | idle halted same => exact absurd (hh.symm.trans halted) (by decide)
  | message m running waiting ran => exact absurd hoff waiting
  | scan i running atPc ran =>
    by_cases hi : i = .sleep
    · subst hi
      obtain rfl := next_unique (exec_sleep_eq hs) ran
      rw [if_neg (by simp [slept, hh]), if_pos ((iter_sleep_iff s.pc).mp atPc)]
      rfl
    · have hpc : s.pc ≠ 21#5 := fun e => hi (Option.some.inj (atPc.symm.trans ((iter_sleep_iff s.pc).mpr e)))
      obtain ⟨hf, hp⟩ | ⟨hf, hp⟩ := exec_sequenced hs ran hi (iter_ne_ofMsg atPc)
      · rw [if_pos hf, hp]
      · rw [if_neg (by simp [hf, hh]), if_neg hpc, hp]

end Sys2Proof.Claims

namespace Sys2Proof.Machine

open Sys2Proof.Safety Sys2Proof.Claims

/-! ## O37: nothing reads the digits -/

/-- How an operation ended, with other digits. -/
def endWithDigits {α : Type} (l r : Fin 17) : EStateM.Result Stop State α → EStateM.Result Stop State α
  | .ok a t => .ok a (t.setDigits l r)
  | .error w t => .error w (t.setDigits l r)

/-- From other digits the operation ends the same way, digits aside. -/
def Op.BlindToDigits (α : Type) (op : Op α) : Prop :=
  ∀ s l r, ∃ l' r', op (s.setDigits l r) = endWithDigits l' r' (op s)

namespace Op.BlindToDigits

theorem bind {α β : Type} {x : Op α} {f : α → Op β} (hx : x.BlindToDigits) (hf : ∀ a, (f a).BlindToDigits) :
    (x >>= f).BlindToDigits := by
  intro s l r
  obtain ⟨l₁, r₁, h₁⟩ := hx s l r
  cases h : x s with
  | error w t =>
    rw [h] at h₁
    exact ⟨l₁, r₁, by rw [Op.bind_error h, Op.bind_error h₁]; rfl⟩
  | ok a t =>
    rw [h] at h₁
    obtain ⟨l₂, r₂, h₂⟩ := hf a t l₁ r₁
    exact ⟨l₂, r₂, by rw [Op.bind_ok h, Op.bind_ok h₁, h₂]⟩

theorem pure {α : Type} (a : α) : (Pure.pure a : Op α).BlindToDigits := fun _ l r => ⟨l, r, rfl⟩

theorem read {α : Type} {f : State → α} (hf : ∀ s l r, f (s.setDigits l r) = f s) : (Op.read f).BlindToDigits :=
  fun s l r => ⟨l, r, by rw [Op.read_apply, Op.read_apply, hf]; rfl⟩

theorem write {f : State → State} (hf : ∀ s l r, f (s.setDigits l r) = (f s).setDigits l r) :
    (Op.write f).BlindToDigits :=
  fun s l r => ⟨l, r, by rw [Op.write_apply, Op.write_apply, hf]; rfl⟩

theorem checkReset : Machine.checkReset.BlindToDigits := by
  intro s l r
  refine ⟨l, r, ?_⟩
  unfold Machine.checkReset
  rw [State.setDigits_env]
  rcases s.env.resets with _ | ⟨_ | n, later⟩ <;> rfl

theorem pinWrite_setDigits (w : PinWrite) (s : State) (l r : Fin 17) :
    pinWrite w (s.setDigits l r) = (pinWrite w s).setDigits l r := by
  cases w with
  | data c v => rfl
  | clk c v => by_cases h : (v && !fileGet s.clk c) = true <;> simp [pinWrite, State.setDigits, h]
  | latch c v => by_cases h : (v && !fileGet s.latch c) = true <;> simp [pinWrite, State.setDigits, h]

theorem sendPins (ws : List PinWrite) : (Machine.sendPins ws).BlindToDigits := by
  induction ws with
  | nil => exact pure ()
  | cons w ws ih => exact checkReset.bind fun _ => (write (pinWrite_setDigits w)).bind fun _ => ih

theorem emit (m : Msg) : (Machine.emit m).BlindToDigits :=
  checkReset.bind fun _ => (write fun _ _ _ => rfl).bind fun _ => (read fun _ _ _ => rfl).bind fun _ =>
    (write fun _ _ _ => rfl).bind fun _ => pure _

theorem registerWrite {f : State → State} (hf : RegisterWrite f) : (Op.write f).BlindToDigits := by
  cases hf with
  | digits l r => exact fun s _ _ => ⟨l, r, rfl⟩
  | _ => exact write fun _ _ _ => rfl

theorem closed : Op.Closed Op.BlindToDigits where
  pure := pure
  bind := bind
  read hf := read (by cases hf <;> exact fun _ _ _ => rfl)
  write := registerWrite
  rdpin p :=
    checkReset.bind fun _ => (read fun _ _ _ => rfl).bind fun _ => (write fun _ _ _ => rfl).bind fun _ => pure _
  sample src :=
    checkReset.bind fun _ => (read fun _ _ _ => rfl).bind fun _ => (write fun _ _ _ => rfl).bind fun _ => pure _
  setsel n := checkReset.bind fun _ => write fun _ _ _ => rfl
  delay w := checkReset.bind fun _ => write fun _ _ _ => rfl
  shout c b := (sendPins _).bind fun _ => write fun _ _ _ => rfl
  send m := (emit m).bind fun failed => by
    split
    · exact fun _ l r => ⟨l, r, rfl⟩
    · exact pure ()

theorem runOp {op : Op Unit} (h : op.BlindToDigits) (s : State) (l r : Fin 17) {t : State}
    (ht : runOp op s = .next t) : ∃ l' r', Machine.runOp op (s.setDigits l r) = .next (t.setDigits l' r') := by
  obtain ⟨l', r', e⟩ := h s l r
  injection ht with ht
  subst ht
  rw [Machine.runOp, e]
  cases op s with
  | ok a u => exact ⟨l', r', rfl⟩
  | error w u =>
    cases w with
    | exc x => exact ⟨l', r', by cases x; rfl⟩
    | rst => exact ⟨Config.blankDigit, Config.blankDigit, rfl⟩

end Op.BlindToDigits

/-! ## O8: what sets `HALT` -/

/-- From `s` to `t` no send has failed. -/
def Unfailed (s t : State) : Prop :=
  t.halt = s.halt ∧ ∃ events, t.trace = s.trace ++ events ∧ ∀ m, Event.emit m true ∉ events

/-- The last event since `s` is a failed send. -/
def FailedLast (s t : State) : Prop :=
  ∃ (events : List Event) (m : Msg), t.trace = s.trace ++ events ++ [.emit m true]

namespace Unfailed

theorem silent {s t : State} (hh : t.halt = s.halt) (ht : t.trace = s.trace) : Unfailed s t :=
  ⟨hh, [], by rw [ht, List.append_nil], fun _ => List.not_mem_nil⟩

theorem event {s t : State} (e : Event) (he : ∀ m, e ≠ .emit m true) (hh : t.halt = s.halt)
    (ht : t.trace = s.trace ++ [e]) : Unfailed s t :=
  ⟨hh, [e], ht, fun m hm => he m (List.mem_singleton.mp hm).symm⟩

theorem refl (s : State) : Unfailed s s := silent rfl rfl

theorem trans (s t u : State) : Unfailed s t → Unfailed t u → Unfailed s u := by
  rintro ⟨hh, es, ht, hes⟩ ⟨hh', es', ht', hes'⟩
  refine ⟨hh'.trans hh, es ++ es', by rw [ht', ht, List.append_assoc], fun m hm => ?_⟩
  exact (List.mem_append.mp hm).elim (hes m) (hes' m)

theorem failedLast (s t u : State) : Unfailed s t → FailedLast t u → FailedLast s u := by
  rintro ⟨-, es, ht, -⟩ ⟨es', m, hu⟩
  exact ⟨es ++ es', m, by rw [hu, ht, List.append_assoc s.trace]⟩

theorem not_failedLast {s t : State} : Unfailed s t → ¬FailedLast s t := by
  rintro ⟨-, es, ht, hes⟩ ⟨es', m, ht'⟩
  rw [ht, List.append_assoc] at ht'
  refine hes m ?_
  rw [List.append_cancel_left ht']
  exact List.mem_append_right _ (List.mem_singleton_self _)

theorem checkReset : Machine.checkReset.Within Unfailed FailedLast :=
  Op.Within.checkReset refl fun _ _ => silent rfl rfl

theorem bind {α β : Type} {x : Op α} {f : α → Op β} (hx : x.Within Unfailed FailedLast)
    (hf : ∀ a, (f a).Within Unfailed FailedLast) : (x >>= f).Within Unfailed FailedLast :=
  Op.Within.bind trans failedLast hx hf

theorem pinWrite (w : PinWrite) (s : State) : Unfailed s (pinWrite w s) :=
  silent (runPins_halt [w] s) (runPins_trace [w] s)

/-- An operation whose writes set no `HALT`, ended by a failed send or not at all. -/
theorem closed : Op.Closed fun _ op => op.Within Unfailed FailedLast where
  pure := Op.Within.pure refl
  bind := bind
  read _ := Op.Within.read refl _
  write hf := Op.Within.write (by cases hf <;> exact fun _ => silent rfl rfl)
  rdpin p := bind checkReset fun _ => bind (Op.Within.read refl _) fun l =>
    bind (Op.Within.write fun s => event (.rdpin p l) nofun rfl rfl) fun _ => Op.Within.pure refl l
  sample src := bind checkReset fun _ => bind (Op.Within.read refl _) fun raw =>
    bind (Op.Within.write fun s => event (.sample src raw) nofun rfl rfl) fun _ => Op.Within.pure refl raw
  setsel n := bind checkReset fun _ => Op.Within.write fun _ => event (.setsel n) nofun rfl rfl
  delay w := bind checkReset fun _ => Op.Within.write fun _ => event (.delay w) nofun rfl rfl
  shout c b := bind (Op.Within.sendPins refl trans failedLast (fun _ _ => silent rfl rfl) pinWrite _) fun _ =>
    Op.Within.write fun _ => event (.shout c b) nofun rfl rfl
  send m := Op.Within.send refl trans failedLast (fun _ _ => silent rfl rfl) m
    (fun _ _ => event (.emit m false) nofun rfl rfl) fun s _ => ⟨[], m, by simp⟩

end Unfailed

/-- R22: an instruction of a running block sets `HALT` exactly when it ends with a failed send. -/
theorem exec_halt_iff {i : Instr} {s t : State} (hh : s.halt = false) (h : exec i s = .next t) :
    t.halt = true ↔ FailedLast s t := by
  obtain ⟨op, hop, he⟩ := Unfailed.closed.exec i
  rw [he] at h
  obtain ⟨u, hu, hend⟩ | ⟨u, hu, rfl⟩ := hop.runOp h
  · have hn : ¬FailedLast s t := by
      obtain rfl | rfl := hend
      · exact hu.not_failedLast
      · exact hu.not_failedLast
    have hf : t.halt = false := by
      obtain rfl | rfl := hend
      · exact hu.1.trans hh
      · rfl
    simp [hn, hf]
  · exact ⟨fun _ => hu, fun _ => rfl⟩

end Sys2Proof.Machine

namespace Sys2Proof.Claims

open Sys2Proof.Machine Sys2Proof.Safety

/-- Settles O37, by the induction over the operations. -/
theorem digitsAreShadows : Obligations.DigitsAreShadows := by
  intro i l r s t _ h
  obtain ⟨op, hop, he⟩ := Op.BlindToDigits.closed.exec i
  rw [he] at h ⊢
  exact hop.runOp s l r h

theorem sameRegisters_refl (s : State) : SameRegisters s s :=
  ⟨rfl, rfl, rfl, rfl, rfl, rfl, rfl, rfl, rfl, rfl, rfl, rfl, rfl, rfl, rfl, rfl⟩

/-- Settles O8: what a step does, and of what an instruction does that only a failed send sets `HALT`. -/
theorem haltedUntilReset : Obligations.HaltedUntilReset := by
  refine ⟨rfl, fun s hh hs => ?_, fun s t hh h => ?_, fun s t hh h => ?_⟩
  · rw [step, fetch_noReset hs, fetchRunning, if_pos hh]
  · obtain ⟨rs, rfl | hst⟩ := step_cases h
    · exact ⟨rfl, .inr ⟨rfl, sameRegisters_refl State.reset⟩⟩
    · cases hst with
      | idle halted same => exact same ▸ ⟨rfl, .inl ⟨hh, sameRegisters_refl s, rfl⟩⟩
      | message m running => exact absurd (hh.symm.trans running) (by decide)
      | scan i running => exact absurd (hh.symm.trans running) (by decide)
  · change t.halt = true ↔ FailedLast s t
    obtain ⟨rs, rfl | hst⟩ := step_cases h
    · have hu : Unfailed s (s.setResets rs).afterReset := .silent hh.symm rfl
      exact ⟨nofun, fun hf => absurd hf hu.not_failedLast⟩
    · cases hst with
      | idle halted same => exact absurd (hh.symm.trans halted) (by decide)
      | message m _ _ ran => exact exec_halt_iff (s := (s.setResets rs).setOffered none) hh ran
      | scan i _ _ ran => exact exec_halt_iff (s := s.setResets rs) hh ran

/-! ## O14: the reset state -/

theorem invariant_of_reset {s : State} (h : SameRegisters s State.reset) : Invariant s := by
  obtain ⟨hpc, -, -, hshown, -, -, -, -, hgwp, -, -, -, -, -, hclk, hlatch⟩ := h
  refine ⟨?_, fun c => ?_, fun j hj => ?_, fun m hm => ?_, fun _ => .inl hshown, fun h => ?_, fun h => ?_⟩
  · rw [PcInProgram, hpc]
    decide
  · rw [hclk, hlatch]
    exact ⟨fileGet_replicate false c, fileGet_replicate true c⟩
  · rw [hgwp] at hj
    exact absurd ((fileGet_replicate false j).symm.trans hj) (by decide)
  · exact absurd (hshown.symm.trans hm) nofun
  · exact absurd (hpc ▸ h) (by decide)
  · exact absurd (hpc ▸ h) (by decide)

/-- Settles O14. -/
theorem resetMeetsInvariant : Obligations.ResetMeetsInvariant :=
  invariant_of_reset (sameRegisters_refl State.reset)

/-! ## O13: frames at the pins -/

/-- R203: eight shifts leave stage s at bit 7 - s, whatever the stages held. -/
theorem shiftIn_eight_bits (sr b : Byte) :
    shiftIn (shiftIn (shiftIn (shiftIn (shiftIn (shiftIn (shiftIn (shiftIn sr (b.getLsbD 0)) (b.getLsbD 1))
      (b.getLsbD 2)) (b.getLsbD 3)) (b.getLsbD 4)) (b.getLsbD 5)) (b.getLsbD 6)) (b.getLsbD 7) = frameStages b := by
  refine BitVec.eq_of_getLsbD_eq fun i hi => ?_
  simp only [shiftIn_getLsbD, BitVec.getLsbD_reverse, BitVec.getMsbD_eq_getLsbD]
  interval_cases i <;> simp

/-- R200, R203: a frame on a chain whose clock is low. -/
theorem framed_of_clk_low {c : Fin 3} {s : State} (b : Byte) (hclk : fileGet s.clk c = false) :
    framed c b s =
      { s with
        data := fileSet s.data c (b.getLsbD 7), clk := fileSet s.clk c false, latch := fileSet s.latch c true
        ext := { sr := fileSet s.ext.sr c (frameStages b), qout := fileSet s.ext.qout c (frameStages b) }
        trace := s.trace ++ [.shout c b] } := by
  simp only [framed, frameWrites, runPins_append, runPins_cons, runPins_nil, pinWrite_latch_fall, runPins_bitWrites,
    hclk, fileGet_fileSet_same, fileSet_fileSet_same]
  rw [pinWrite_latch_rise (by simp)]
  simp only [fileGet_fileSet_same, fileSet_fileSet_same, shiftIn_eight_bits]

theorem framed_pinsIdle (c : Fin 3) (b : Byte) {s : State} (h : PinsIdle s) : PinsIdle (framed c b s) := by
  intro i
  rw [framed_of_clk_low b (h c).1]
  dsimp only
  rw [fileGet_fileSet, fileGet_fileSet]
  split
  · exact ⟨rfl, rfl⟩
  · exact h i

theorem framed_qout (c : Fin 3) (b : Byte) {s : State} (h : PinsIdle s) (i : Fin 3) :
    fileGet (framed c b s).ext.qout i = if c = i then frameStages b else fileGet s.ext.qout i := by
  rw [framed_of_clk_low b (h c).1]
  exact fileGet_fileSet ..

theorem lit_pinsIdle (mask : Byte) {s : State} (h : PinsIdle s) : PinsIdle (lit mask s) := by
  rw [lit]
  exact framed_pinsIdle 2 mask (s := { s with ind := mask }) h

theorem lit_qout (mask : Byte) {s : State} (h : PinsIdle s) (i : Fin 3) :
    fileGet (lit mask s).ext.qout i = if 2 = i then frameStages mask else fileGet s.ext.qout i := by
  rw [lit, framed_qout 2 mask (s := { s with ind := mask }) h]

/-- Between operations: the pins idle (R201), and the outputs show what the registers say (R36). -/
def Settled (T : Config.Tables) (s : State) : Prop := PinsIdle s ∧ DisplayTrue T s

theorem Settled.nextPosition {T : Config.Tables} {s : State} (h : Settled T s) : Settled T (nextPosition s) := h

theorem Settled.lit {T : Config.Tables} {s : State} (h : Settled T s) (mask : Byte) : Settled T (lit mask s) := by
  obtain ⟨hidle, hd⟩ := h
  refine ⟨lit_pinsIdle mask hidle, fun m hm => ?_⟩
  have hl : (Claims.lit mask s).digL = s.digL := by rw [lit_shiftsOnly]
  have hr : (Claims.lit mask s).digR = s.digR := by rw [lit_shiftsOnly]
  have hs : (Claims.lit mask s).shown = s.shown := by rw [lit_shiftsOnly]
  have hi : (Claims.lit mask s).ind = mask := by simp [Claims.lit, framed]
  obtain ⟨hdig, hleft, hright, -⟩ := hd m (hs.symm.trans hm)
  rw [hl, hr, hi, lit_qout mask hidle, lit_qout mask hidle, lit_qout mask hidle]
  exact ⟨hdig, hleft, hright, rfl⟩

section Redrawn

variable (T : Config.Tables) (l r : Fin 17) (mask : Byte) {s : State}

theorem redrawn_pinsIdle (h : PinsIdle s) : PinsIdle (redrawn T l r mask s) :=
  lit_pinsIdle mask (framed_pinsIdle 1 _ (framed_pinsIdle 0 _ (s := { s with digL := l, digR := r }) h))

/-- R203: the three registers show the two digits and the mask. -/
theorem redrawn_qout (h : PinsIdle s) :
    fileGet (redrawn T l r mask s).ext.qout chainLeft = frameStages (segLookup T l.val) ∧
      fileGet (redrawn T l r mask s).ext.qout chainRight = frameStages (segLookup T r.val) ∧
      fileGet (redrawn T l r mask s).ext.qout chainLed = frameStages mask := by
  have hleft := framed_pinsIdle 0 (segLookup T l.val) (s := { s with digL := l, digR := r }) h
  have hright := framed_pinsIdle 1 (segLookup T r.val) hleft
  have hq : ∀ i, fileGet (redrawn T l r mask s).ext.qout i =
      if 2 = i then frameStages mask else if 1 = i then frameStages (segLookup T r.val)
        else if 0 = i then frameStages (segLookup T l.val) else fileGet s.ext.qout i := fun i => by
    rw [redrawn, lit_qout mask hright, framed_qout 1 _ hleft, framed_qout 0 _ (s := { s with digL := l, digR := r }) h]
  exact ⟨hq 0, hq 1, hq 2⟩

/-- R36: a redraw for mode m, with `SHOWN` written, shows it. -/
theorem settled_redrawn (m : Mode) (h : PinsIdle s) :
    Settled T { redrawn T (fileGet T.disp m).1 (fileGet T.disp m).2 mask s with shown := some m } := by
  have hidle := redrawn_pinsIdle T (fileGet T.disp m).1 (fileGet T.disp m).2 mask h
  have hq := redrawn_qout T (fileGet T.disp m).1 (fileGet T.disp m).2 mask h
  have hl : (redrawn T (fileGet T.disp m).1 (fileGet T.disp m).2 mask s).digL = (fileGet T.disp m).1 := by
    rw [redrawn_shiftsOnly]
  have hr : (redrawn T (fileGet T.disp m).1 (fileGet T.disp m).2 mask s).digR = (fileGet T.disp m).2 := by
    rw [redrawn_shiftsOnly]
  have hi : (redrawn T (fileGet T.disp m).1 (fileGet T.disp m).2 mask s).ind = mask := by
    simp [redrawn, Claims.lit, framed]
  generalize redrawn T (fileGet T.disp m).1 (fileGet T.disp m).2 mask s = u at *
  refine ⟨hidle, fun n hn => ?_⟩
  cases hn
  dsimp only
  rw [hl, hr, hi]
  exact ⟨rfl, hq⟩

end Redrawn

theorem refreshed_settled (T : Config.Tables) {s : State} (h : Settled T s) : Settled T (refreshed T s) := by
  by_cases hm : s.shown = some s.mode
  · rw [refreshed, if_pos hm]
    exact h.nextPosition
  · rw [refreshed_of_stale T hm]
    exact (settled_redrawn T _ s.mode h.1).nextPosition

theorem keyScanned_settled (T : Config.Tables) (k : Fin 8) {s : State} (h : Settled T s) :
    Settled T (keyScanned T k s) := by
  obtain ⟨u, rest, hrest, hc, hu⟩ := keyScanned_cases T k s
  have hu : Settled T u := by
    rw [hu]
    exact h
  refine hc.elim hu ?_
  obtain rfl | ⟨mask, rfl⟩ := hrest
  · exact hu.nextPosition
  · exact (hu.lit mask).nextPosition

theorem exec_settled {i : Instr} {s t : State} (hs : NoReset s) (h : exec i s = .next t)
    (hd : Settled Config.tables s) : Settled Config.tables t := by
  by_cases hr : i = .refresh
  · subst hr
    rw [next_unique (exec_refresh_eq hs) h]
    exact refreshed_settled Config.tables hd
  by_cases hk : ∃ k, i = .key k
  · obtain ⟨k, rfl⟩ := hk
    rw [next_unique (exec_key_eq hs k) h]
    exact keyScanned_settled Config.tables k hd
  · obtain ⟨-, hshown, hpins, -⟩ := controlRegistersWrittenOnlyBy i s t hs h
    obtain ⟨hshown, hl, hr'⟩ := hshown hr
    obtain ⟨hind, -, hclk, hlatch, hext⟩ := hpins hr fun k e => hk ⟨k, e⟩
    rw [Settled, PinsIdle, DisplayTrue, hshown, hl, hr', hind, hclk, hlatch, hext]
    exact hd

/-! ## O13: the gates -/

theorem exec_keeps_gates {i : Instr} {s t : State} (hs : NoReset s) (h : exec i s = .next t)
    (hg : GateHasReference s) : GateHasReference t := by
  by_cases hd : i = .mux0 ∧ s.mode = 1
  · obtain ⟨rfl, hm⟩ := hd
    obtain ⟨-, hgate, -⟩ := mux0Scanned_delta Config.tables hm
    rw [next_unique (exec_mux0_eq hs) h]
    exact hgate hg
  · obtain ⟨-, -, hfiles⟩ := filesWrittenOnlyBy i s t hs h
    obtain ⟨-, href, hgwp⟩ := hfiles (by tauto)
    rw [GateHasReference, href, hgwp]
    exact hg

/-! ## O13: the mode shown -/

theorem modeShown_congr {s t : State} (hpc : t.pc = s.pc) (hm : t.mode = s.mode) (hsh : t.shown = s.shown)
    (h : ModeShown s) : ModeShown t := by
  rw [ModeShown, LagAtMostOne, hpc, hm, hsh]
  exact h

theorem modeShown_of_lag {s : State} (hpc : s.pc = 0#5 ∨ 10 ≤ s.pc.toNat) (h : LagAtMostOne s) : ModeShown s := by
  refine ⟨fun _ => .inr h, fun hge hle => ?_, fun _ => h⟩
  obtain hpc | hpc := hpc
  · simp [hpc] at hge
  · omega

theorem modeShown_of_shown {s : State} (hge : 1 ≤ s.pc.toNat) (hle : s.pc.toNat ≤ 9) (h : s.shown = some s.mode) :
    ModeShown s :=
  ⟨fun hpc => absurd hge (by simp [hpc]), fun _ _ => h, fun hpc => by omega⟩

/-- R115: between the operations that show or change the mode. -/
theorem modeShown_next {s t : State} (hpc : t.pc.toNat = s.pc.toNat + 1) (h0 : s.pc ≠ 0#5) (h9 : s.pc ≠ 9#5)
    (hm : t.mode = s.mode) (hsh : t.shown = s.shown) (h : ModeShown s) : ModeShown t := by
  obtain ⟨-, hscan, hafter⟩ := h
  have h0 : s.pc.toNat ≠ 0 := fun e => h0 (BitVec.eq_of_toNat_eq e)
  have h9 : s.pc.toNat ≠ 9 := fun e => h9 (BitVec.eq_of_toNat_eq e)
  by_cases hle : s.pc.toNat ≤ 9
  · refine modeShown_of_shown (by omega) (by omega) ?_
    rw [hsh, hm]
    exact hscan (by omega) hle
  · refine modeShown_of_lag (.inr (by omega)) ?_
    rw [LagAtMostOne, hm, hsh]
    exact hafter (by omega)

/-- R115, R188: what an operation of the program leaves of `PC`, `MODE` and `SHOWN`. -/
theorem scan_keeps_modeShown {i : Instr} {s t : State} (hs : NoReset s) (hat : iter[s.pc.toNat]? = some i)
    (h : exec i s = .next t) (hm : ModeShown s) : PcInProgram t ∧ ModeShown t := by
  have hlt : s.pc.toNat < 22 := (List.getElem?_eq_some_iff.mp hat).1
  have hpos : ∀ {j : Instr} {n : BitVec 5}, (iter[s.pc.toNat]? = some j ↔ s.pc = n) → i ≠ j → s.pc ≠ n :=
    fun hiff hne e => hne (Option.some.inj (hat.symm.trans (hiff.mpr e)))
  obtain ⟨hmode, hshown, -⟩ := controlRegistersWrittenOnlyBy i s t hs h
  by_cases hsleep : i = .sleep
  · subst hsleep
    have hpc : s.pc = 21#5 := (iter_sleep_iff s.pc).mp hat
    obtain rfl := next_unique (exec_sleep_eq hs) h
    obtain ⟨-, -, hafter⟩ := hm
    exact ⟨Nat.zero_le _, modeShown_of_lag (.inl rfl) (hafter (by rw [hpc]; decide))⟩
  by_cases hrefresh : i = .refresh
  · subst hrefresh
    have hpc : s.pc = 0#5 := (iter_refresh_iff s.pc).mp hat
    obtain ⟨l, r, ht⟩ := refreshed_frame Config.tables s
    rw [← next_unique (exec_refresh_eq hs) h] at ht
    have hn : t.pc.toNat = 1 := by
      rw [ht]
      exact congrArg (fun pc => (pc + 1#5).toNat) hpc
    exact ⟨by omega, modeShown_of_shown (by omega) (by omega) (by rw [ht]; rfl)⟩
  by_cases hmodeb : i = .modeb
  · subst hmodeb
    have hpc : s.pc = 9#5 := (iter_modeb_iff s.pc).mp hat
    obtain ⟨m, hnew, ht⟩ := modeScanned_cases s
    rw [← next_unique (exec_modeb_eq hs) h] at ht
    subst ht
    obtain ⟨-, hscan, -⟩ := hm
    have hlag : LagAtMostOne (nextPosition { polled 8 s with mode := m }) :=
      ⟨s.mode, hscan (by rw [hpc]; decide) (by rw [hpc]; decide), hnew⟩
    have hn : (nextPosition { polled 8 s with mode := m }).pc.toNat = 10 :=
      congrArg (fun pc => (pc + 1#5).toNat) hpc
    exact ⟨by omega, modeShown_of_lag (.inr (by omega)) hlag⟩
  obtain ⟨hh, hpc⟩ | ⟨hh, hpc⟩ := exec_sequenced hs h hsleep (iter_ne_ofMsg hat)
  · exact ⟨by rw [PcInProgram, hpc]; omega, modeShown_congr hpc (hmode hmodeb) (hshown hrefresh).1 hm⟩
  · have h21 : s.pc.toNat ≠ 21 := fun e => hpos (iter_sleep_iff _) hsleep (BitVec.eq_of_toNat_eq e)
    have hn : t.pc.toNat = s.pc.toNat + 1 := by rw [hpc]; bv_omega
    exact ⟨by omega, modeShown_next hn (hpos (iter_refresh_iff _) hrefresh) (hpos (iter_modeb_iff _) hmodeb)
      (hmode hmodeb) (hshown hrefresh).1 hm⟩

/-! ## O13: the invariant -/

/-- No clause of the invariant is about the pulses. -/
theorem invariant_setResets_iff {s : State} {rs : List Nat} : Invariant (s.setResets rs) ↔ Invariant s :=
  ⟨fun ⟨hpc, hidle, hgate, hd, hm⟩ => ⟨hpc, hidle, hgate, hd, hm⟩,
    fun ⟨hpc, hidle, hgate, hd, hm⟩ => ⟨hpc, hidle, hgate, hd, hm⟩⟩

theorem invariant_afterReset (s : State) : Invariant s.afterReset :=
  invariant_of_reset (sameRegisters_refl State.reset)

theorem message_keeps_invariant {m : Msg} {s t : State} (hs : NoReset s) (h : exec (.ofMsg m) s = .next t)
    (hi : Invariant s) : Invariant t := by
  obtain ⟨hidle, hd⟩ := exec_settled hs h ⟨hi.pinsIdle, hi.display⟩
  obtain ⟨hmode, hshown, -, -, -, hpc⟩ := controlRegistersWrittenOnlyBy _ s t hs h
  have hpc := hpc ⟨m, rfl⟩
  have hne : Instr.ofMsg m ≠ .modeb ∧ Instr.ofMsg m ≠ .refresh := by cases m <;> exact ⟨nofun, nofun⟩
  exact ⟨by rw [PcInProgram, hpc]; exact hi.pcInProgram, hidle, exec_keeps_gates hs h hi.gateHasRef, hd,
    modeShown_congr hpc (hmode hne.1) (hshown hne.2).1 hi.modeShown⟩

theorem scan_keeps_invariant {i : Instr} {s t : State} (hs : NoReset s) (hat : iter[s.pc.toNat]? = some i)
    (h : exec i s = .next t) (hi : Invariant s) : Invariant t := by
  obtain ⟨hidle, hd⟩ := exec_settled hs h ⟨hi.pinsIdle, hi.display⟩
  obtain ⟨hpc, hm⟩ := scan_keeps_modeShown hs hat h hi.modeShown
  exact ⟨hpc, hidle, exec_keeps_gates hs h hi.gateHasRef, hd, hm⟩

/-- A pulse inside an instruction resets the block; without one it does what it does when none is coming. -/
theorem exec_keeps_invariant {i : Instr} {s t : State} (h : exec i s = .next t)
    (hblind : ∀ u, exec i (s.setResets []) = .next u → Invariant u) : Invariant t := by
  obtain ⟨u, rfl⟩ | hb := exec_reset_or_blind h
  · exact invariant_afterReset u
  · exact invariant_setResets_iff.mp (hblind _ hb)

/-- Settles O13: a reset meets the invariant, a message leaves what it speaks of, and every operation keeps it at its
own position of the program. -/
theorem stepKeepsInvariant : Obligations.StepKeepsInvariant := by
  intro s t hi h
  obtain ⟨rs, rfl | hst⟩ := step_cases h
  · exact invariant_afterReset _
  cases hst with
  | idle halted same => exact same ▸ invariant_setResets_iff.mpr hi
  | message m running waiting ran =>
    have hi' : Invariant (((s.setResets rs).setOffered none).setResets []) :=
      ⟨hi.pcInProgram, hi.pinsIdle, hi.gateHasRef, hi.display, hi.modeShown⟩
    exact exec_keeps_invariant ran fun u hu => message_keeps_invariant rfl hu hi'
  | scan i running atPc ran =>
    have hi' : Invariant ((s.setResets rs).setResets []) := invariant_setResets_iff.mpr (invariant_setResets_iff.mpr hi)
    exact exec_keeps_invariant ran fun u hu => scan_keeps_invariant rfl (by exact atPc) hu hi'

end Sys2Proof.Claims

/-! SUPPORT. What the statements of 20_memory.md rest on: a running block always finds something to do, which messages
an operation can send, and what writes the outputs of the external registers. -/

namespace Sys2Proof.Machine

open Sys2Proof.Safety

/-! ## O10: a step always finds something to do -/

/-- R21, R110: every position of the program holds a word that spells an operation. -/
theorem fetchScan_runs {s : State} (h : PcInProgram s) : ∃ i, fetchScan s = .run i s := by
  have hlt : s.pc.toNat < iter.length := Nat.lt_succ_of_le h
  have hdec : (scanWordAt s.pc).map decodeScan = some (.ok iter[s.pc.toNat]) := by
    rw [scanWordAt, ← List.getElem?_map, scanProgram_decode, List.getElem?_map, List.getElem?_eq_getElem hlt]
    rfl
  obtain ⟨w, hw, hi⟩ := Option.map_eq_some_iff.mp hdec
  exact ⟨_, by rw [fetchScan, hw]; dsimp only; rw [hi]⟩

/-- R86, R87: every word that is not of kind 3 spells a message. -/
theorem decodeSink_of_legal {w : SinkWord} (h : sinkWordLegal w = true) : ∃ i, decodeSink w = .ok i := by
  have hw : w.toNat / 16384 ≠ 3 := of_decide_eq_true h
  have hkind : (sinkKind w).toNat = 0 ∨ (sinkKind w).toNat = 1 ∨ (sinkKind w).toNat = 2 := by
    rw [sinkKind, BitVec.extractLsb'_toNat, Nat.shiftRight_eq_div_pow]
    omega
  obtain hk | hk | hk := hkind
  · exact ⟨.noteOn (sinkA w) (sinkB w), by simp only [decodeSink, hk]⟩
  · exact ⟨.noteOff (sinkA w) (sinkB w), by simp only [decodeSink, hk]⟩
  · exact ⟨.cc (sinkA w) (sinkB w), by simp only [decodeSink, hk]⟩

theorem fetchOffered_runs {w : SinkWord} (h : sinkWordLegal w = true) (s : State) :
    ∃ i, fetchOffered w s = .run i (s.setOffered none) := by
  obtain ⟨i, hi⟩ := decodeSink_of_legal h
  exact ⟨i, by rw [fetchOffered, hi]⟩

theorem fetchRunning_ne_refuse {s : State} (hpc : PcInProgram s)
    (hport : ∀ w, s.offered = some w → sinkWordLegal w = true) (r : Refusal) : fetchRunning s ≠ .refuse r := by
  rw [fetchRunning]
  split
  · exact nofun
  · cases ho : s.offered with
    | some w =>
      obtain ⟨i, hi⟩ := fetchOffered_runs (hport w ho) s
      dsimp only
      exact hi ▸ nofun
    | none =>
      obtain ⟨i, hi⟩ := fetchScan_runs hpc
      dsimp only
      exact hi ▸ nofun

/-- R260: a step begins with a reset, or as with other pulses coming. -/
theorem fetch_cases (s : State) : ∃ rs, fetch s = .reset (s.setResets rs) ∨ fetch s = fetchRunning (s.setResets rs) := by
  rcases hr : s.env.resets with _ | ⟨_ | n, later⟩
  · have hs : s.setResets [] = s := by rw [← hr]; rfl
    exact ⟨[], .inr (by rw [hs, fetch_noReset hr])⟩
  · exact ⟨later, .inl (by rw [fetch, checkReset, hr])⟩
  · exact ⟨n :: later, .inr (by rw [fetch, checkReset, hr])⟩

theorem step_next_of_fetch {s : State} (h : ∀ r, fetch s ≠ .refuse r) : ∃ t, step s = .next t := by
  rw [step]
  cases hf : fetch s with
  | reset t => exact ⟨_, rfl⟩
  | idle t => exact ⟨_, rfl⟩
  | run i t => exact exec_next i t
  | refuse r => exact absurd hf (h r)

/-! ## O48: what writes the outputs -/

/-- R203: only a rising edge of a latch line writes the outputs. -/
theorem pinWrite_qout {w : PinWrite} (h : ∀ c, w ≠ .latch c true) (s : State) :
    (pinWrite w s).ext.qout = s.ext.qout := by
  cases w with
  | data c v => rfl
  | clk c v =>
    rw [pinWrite]
    split <;> rfl
  | latch c v =>
    cases v with
    | false => rfl
    | true => exact absurd rfl (h c)

theorem runPins_qout {ws : List PinWrite} (h : ∀ w ∈ ws, ∀ c, w ≠ .latch c true) (s : State) :
    (runPins ws s).ext.qout = s.ext.qout := by
  induction ws generalizing s with
  | nil => rfl
  | cons w ws ih =>
    rw [runPins_cons, ih fun v hv => h v (List.mem_cons_of_mem w hv), pinWrite_qout (h w List.mem_cons_self)]

/-- R200: no write of a frame before the 26th raises a latch line. -/
theorem frameWrites_latch_last (c : Fin 3) (b : Byte) :
    ∀ w ∈ (frameWrites c b).take 25, ∀ c', w ≠ .latch c' true := by
  simp [frameWrites, bitWrites]

end Sys2Proof.Machine

namespace Sys2Proof.Claims

open Sys2Proof.Machine Sys2Proof.Safety

/-- Settles O10: the fetch refuses nothing, and no instruction ends in a fault or a refusal. -/
theorem stepAlwaysGoesOn : Obligations.StepAlwaysGoesOn := by
  intro s hpc hport
  refine step_next_of_fetch fun r => ?_
  obtain ⟨rs, hf | hf⟩ := fetch_cases s
  · exact hf ▸ nofun
  · exact hf ▸ fetchRunning_ne_refuse (s := s.setResets rs) hpc hport r

/-- Settles O48: the only rising latch edge of a frame is its 26th write. -/
theorem outputsChangeOnlyAtTheLatch : Obligations.OutputsChangeOnlyAtTheLatch := by
  intro c b s n hn
  refine runPins_qout (fun w hw => frameWrites_latch_last c b w ?_) s
  exact (List.take_subset_take_left _ (Nat.le_of_lt_succ hn)) hw

end Sys2Proof.Claims

namespace Sys2Proof.Safety

open Sys2Proof.Machine

@[simp] theorem messages_append (a b : List Event) : messages (a ++ b) = messages a ++ messages b := by
  induction a with
  | nil => rfl
  | cons e a ih => cases e <;> simp [messages, ih]

theorem eventsBefore_isPrefix (n : Nat) (events : List Event) : eventsBefore n events <+: events := by
  induction events generalizing n with
  | nil => exact List.prefix_rfl
  | cons e rest ih =>
    rw [eventsBefore]
    split
    · exact (List.prefix_cons_inj e).mpr (ih _)
    · exact List.nil_prefix

end Sys2Proof.Safety

namespace Sys2Proof.Machine

open Sys2Proof.Safety

/-! ## The events of an operation that a reset pulse abandons -/

theorem ended_endWithResets_trace (rs : List Nat) (r : EStateM.Result Stop State Unit) :
    (Op.ended (endWithResets rs r)).trace = (Op.ended r).trace := by
  cases r with
  | ok a t => rfl
  | error w t =>
    cases w with
    | exc e => cases e; rfl
    | rst => rfl

theorem Op.TimedAt.ended_trace {op : Op Unit} {s : State} {events : List Event} (h : op.TimedAt s events) :
    (Op.ended (op s)).trace = s.trace ++ events := by
  obtain ⟨h, -⟩ := h
  cases ho : op s with
  | ok a t =>
    rw [ho] at h
    exact h.2
  | error w t =>
    rw [ho] at h
    cases w with
    | exc e => exact h.2
    | rst => exact h.elim

/-- R260: with pulses coming an operation makes the events it makes without them, or the first of these. -/
theorem Op.Timed.ended_events {op : Op Unit} (hop : op.Timed) (s : State) :
    ∃ before after, (Op.ended (op s)).trace = s.trace ++ before ∧
      (Op.ended (op (s.setResets []))).trace = s.trace ++ (before ++ after) := by
  obtain ⟨events, htimed⟩ := hop (s.setResets []) rfl
  have hall : (Op.ended (op (s.setResets []))).trace = s.trace ++ events := htimed.ended_trace
  rcases hr : s.env.resets with _ | ⟨n, later⟩
  · have hs : s.setResets [] = s := by rw [← hr]; rfl
    rw [hs] at hall ⊢
    exact ⟨events, [], hall, by rw [List.append_nil, hall]⟩
  have hs : (s.setResets []).setResets (n :: later) = s := by rw [← hr]; rfl
  obtain ⟨hpast, hinside⟩ := htimed.2 n later
  rw [hs] at hpast hinside
  by_cases hn : moments events ≤ n
  · exact ⟨events, [], by rw [hpast hn, ended_endWithResets_trace, hall], by rw [List.append_nil, hall]⟩
  · obtain ⟨u, hu, htrace, -⟩ := hinside (Nat.lt_of_not_le hn)
    obtain ⟨rest, he⟩ := eventsBefore_isPrefix n events
    exact ⟨eventsBefore n events, rest, by rw [hu]; exact htrace, by rw [he, hall]⟩

theorem exec_events {i : Instr} {s t u : State} (h : exec i s = .next t) (hu : exec i (s.setResets []) = .next u) :
    ∃ before after, t.trace = s.trace ++ before ∧ u.trace = s.trace ++ (before ++ after) := by
  obtain ⟨op, hop, he⟩ := exec_timed i
  rw [he] at h hu
  obtain rfl := next_unique rfl h
  obtain rfl := next_unique rfl hu
  exact hop.ended_events s

end Sys2Proof.Machine

namespace Sys2Proof.Claims

open Sys2Proof.Machine Sys2Proof.Safety

/-! ## O18: which messages an operation sends -/

/-- From `s` to `t` events were only added, and each message among them is in L. -/
def Emits (L : Msg → Prop) (s t : State) : Prop :=
  ∃ events, t.trace = s.trace ++ events ∧ ∀ m ∈ messages events, L m

namespace Emits

variable {L : Msg → Prop} {s t u : State}

theorem quiet (events : List Event) (hm : messages events = []) (ht : t.trace = s.trace ++ events) : Emits L s t :=
  ⟨events, ht, by simp [hm]⟩

theorem silent (ht : t.trace = s.trace) : Emits L s t := quiet [] rfl (by simp [ht])

theorem trans (h₁ : Emits L s t) (h₂ : Emits L t u) : Emits L s u := by
  obtain ⟨es₁, ht, hl₁⟩ := h₁
  obtain ⟨es₂, hu, hl₂⟩ := h₂
  refine ⟨es₁ ++ es₂, by rw [hu, ht, List.append_assoc], fun m hm => ?_⟩
  rw [messages_append] at hm
  exact (List.mem_append.mp hm).elim (hl₁ m) (hl₂ m)

theorem sent {m : Msg} (hm : L m) (failed : Bool) (ht : t.trace = s.trace ++ [.emit m failed]) : Emits L s t :=
  ⟨[.emit m failed], ht, by simpa [messages] using hm⟩

theorem next (h : Emits L s t) : Emits L s (nextPosition t) := h

theorem framed (c : Fin 3) (b : Byte) (ht : t.trace = s.trace) : Emits L s (framed c b t) :=
  quiet [.shout c b] rfl (by rw [← ht]; rfl)

theorem lit (mask : Byte) : Emits L s (lit mask s) := framed 2 mask rfl

theorem lineRead (p : Fin 11) : Emits L s (lineRead p s) := quiet [.rdpin p s.levelNow] rfl rfl

theorem polled (p : Fin 11) : Emits L s (polled p s) := quiet [.rdpin p s.levelNow] rfl rfl

theorem acquired (i : Fin 7) : Emits L s (acquired i s) := quiet _ rfl rfl

/-- A send of a message in L, failed or not, and what follows it. -/
theorem sending {m : Msg} (hm : L m) {after : State → State} (h : ∀ t, Emits L t (after t)) :
    Emits L s (sending m s after) := by
  rw [Claims.sending]
  split
  · exact sent hm true rfl
  · exact trans (sent hm false rfl) (h _)

theorem reported {c : Fin 9} {ctrl q : Q} (hm : L (.cc ctrl q)) : Emits L s (reported c ctrl q s) := by
  rw [Claims.reported]
  split
  · exact silent rfl
  · exact sending hm fun t => silent rfl

theorem deltaScanned {j : Fin 2} {p : Fin 11} {ctrl : Q} {raw : Raw} {after : State → State}
    (hm : ∀ val, L (.cc ctrl val)) (h : ∀ t, Emits L t (after t)) :
    Emits L s (deltaScanned j p ctrl raw s after) := by
  have hafter : ∀ {t u : State}, u.trace = t.trace → Emits L t (after u) := fun hu => (silent hu).trans (h _)
  rw [Claims.deltaScanned]
  by_cases hl : s.levelNow = low
  · rw [if_pos hl]
    generalize (if fileGet s.gwp j = false then some raw else fileGet s.ref j) = captured
    have hread : Emits L s { Claims.lineRead p s with ref := fileSet s.ref j captured } := (lineRead p).trans (silent rfl)
    cases captured with
    | none => exact hread.trans (hafter rfl)
    | some r =>
      dsimp only
      split
      · exact hread.trans (hafter rfl)
      · exact hread.trans (sending (hm _) fun t => hafter rfl)
  · rw [if_neg hl]
    exact (lineRead p).trans (hafter rfl)

theorem encScanned {p : Fin 11} {val : Q} (hm : s.mode = 2 → L (.cc 10#7 val)) : Emits L s (encScanned p val s) := by
  rw [Claims.encScanned]
  by_cases h2 : s.mode = 2
  · rw [if_pos h2]
    split
    · exact (polled p).trans (sending (hm h2) fun t => silent rfl)
    · exact (polled p).next
  · rw [if_neg h2]
    exact silent rfl

/-- R126: the guard of mode 1 lets no message out. -/
theorem keyScanned (T : Config.Tables) {k : Fin 8}
    (hm : ¬(s.mode = 1 ∧ (k = 0 ∨ k = 3)) →
      L (.noteOn (BitVec.ofNat 7 (12 * s.mode.val + k.val)) 127#7) ∧
        L (.noteOff (BitVec.ofNat 7 (12 * s.mode.val + k.val)) 0#7)) :
    Emits L s (keyScanned T k s) := by
  have hlight : ∀ (c : Prop) [Decidable c] (mask : Byte) (t : State),
      Emits L t (nextPosition (if c then Claims.lit mask t else t)) := by
    intro c _ mask t
    split
    · exact (lit mask).next
    · exact silent rfl
  rw [Claims.keyScanned]
  by_cases hg : s.mode = 1 ∧ (k = 0 ∨ k = 3)
  · rw [if_pos hg]
    exact (polled _).next
  obtain ⟨hon, hoff⟩ := hm hg
  rw [if_neg hg]
  split
  · exact (polled _).trans (sending hon (hlight _ _))
  split
  · exact (polled _).trans (sending hoff (hlight _ _))
  · exact (polled _).next

theorem modeScanned : Emits L s (modeScanned s) := by
  rw [Claims.modeScanned]
  split
  · exact (polled 8).trans (silent rfl)
  · exact (polled 8).next

theorem redrawn (T : Config.Tables) (l r : Fin 17) (mask : Byte) : Emits L s (redrawn T l r mask s) := by
  have hleft : Emits L s (Claims.framed 0 (segLookup T l.val) { s with digL := l, digR := r }) := framed 0 _ rfl
  exact (hleft.trans (framed 1 _ rfl)).trans (lit mask)

theorem refreshed (T : Config.Tables) : Emits L s (refreshed T s) := by
  by_cases h : s.shown = some s.mode
  · rw [Claims.refreshed, if_pos h]
    exact silent rfl
  · rw [refreshed_of_stale T h]
    have hshown : ∀ u, Emits L u (nextPosition { u with shown := some s.mode }) := fun u => silent rfl
    exact (redrawn T _ _ _).trans (hshown _)

/-- R150: in mode 1 the two delta controllers, otherwise the mode's own. -/
theorem mux0Scanned (T : Config.Tables)
    (hdelta : s.mode = 1 → ∀ val, L (.cc 1#7 val) ∧ L (.cc 30#7 val))
    (hquant : s.mode ≠ 1 → ∀ val, L (.cc (fileGet T.ch0Cc s.mode) val)) : Emits L s (mux0Scanned T s) := by
  rw [Claims.mux0Scanned]
  by_cases h1 : s.mode = 1
  · rw [if_pos h1]
    exact (acquired 0).trans (deltaScanned (fun val => (hdelta h1 val).1) fun t =>
      deltaScanned (fun val => (hdelta h1 val).2) fun u => silent rfl)
  · rw [if_neg h1]
    exact (acquired 0).trans (reported (hquant h1 _))

end Emits

/-- R94: the note of a key is at most 79, so its 7 bits hold it. -/
theorem legalNote_of_key {m : Mode} {k : Fin 8} (h : ¬(m = 1 ∧ (k = 0 ∨ k = 3))) :
    LegalNote m (BitVec.ofNat 7 (12 * m.val + k.val)) := by
  refine ⟨k, h, ?_⟩
  have hm : m.val < 7 := m.isLt
  have hk : k.val < 8 := k.isLt
  rw [BitVec.toNat_ofNat]
  omega

/-- R57: the channels 1 to 8 send on 2 to 9. -/
theorem legalControl_channel (m : Mode) {n : Nat} (h : 2 ≤ n ∧ n ≤ 9) (val : Q) :
    LegalControl m (BitVec.ofNat 7 n) val := by
  refine .inr (.inr (.inl ?_))
  rw [BitVec.toNat_ofNat]
  omega

/-- With no pulse coming, an operation of the program sends only what its mode allows. -/
theorem exec_emits_legal {i : Instr} {s t : State} (hs : NoReset s) (hi : ∀ m, i ≠ .ofMsg m)
    (h : exec i s = .next t) : Emits (LegalMessage s.mode) s t := by
  obtain rfl | ⟨k, rfl⟩ | rfl | ⟨i, rfl⟩ | ⟨j, rfl⟩ | ⟨e, rfl⟩ | rfl | ⟨m, rfl⟩ := instr_kinds i
  · rw [next_unique (exec_refresh_eq hs) h]
    exact .refreshed _
  · rw [next_unique (exec_key_eq hs k) h]
    exact .keyScanned _ fun hg => ⟨⟨legalNote_of_key hg, rfl⟩, legalNote_of_key hg, rfl⟩
  · rw [next_unique (exec_modeb_eq hs) h]
    exact .modeScanned
  · by_cases h0 : i = 0
    · subst h0
      rw [next_unique (exec_mux0_eq hs) h]
      exact .mux0Scanned _ (fun hm _ => ⟨.inl ⟨hm, .inl rfl⟩, .inl ⟨hm, .inr rfl⟩⟩) fun hm _ => .inr (.inl ⟨hm, rfl⟩)
    · have hpos : i.val ≠ 0 := Fin.val_ne_of_ne h0
      have hlt : i.val < 7 := i.isLt
      rw [next_unique (exec_mux_eq hs h0) h]
      exact (Emits.acquired i).trans (.reported (legalControl_channel _ (by omega) _))
  · rw [next_unique (exec_dir_eq hs j) h]
    exact Emits.trans (.quiet [.sample _ _] rfl rfl) (.reported (legalControl_channel _ (by omega) _))
  · rw [next_unique (exec_enc_eq hs e) h]
    have hval : Config.encVal e = 127#7 ∨ Config.encVal e = 1#7 := by fin_cases e <;> decide
    exact .encScanned fun hm => .inr (.inr (.inr ⟨hm, rfl, hval⟩))
  · rw [next_unique (exec_sleep_eq hs) h]
    exact .quiet [.delay .loop] rfl rfl
  · exact absurd rfl (hi m)

theorem Emits.of_prefix {L : Msg → Prop} {s t u : State} {before after : List Event}
    (ht : t.trace = s.trace ++ before) (hu : u.trace = s.trace ++ (before ++ after)) (h : Emits L s u) :
    Emits L s t := by
  obtain ⟨events, he, hl⟩ := h
  obtain rfl : before ++ after = events := List.append_cancel_left (hu.symm.trans he)
  refine ⟨before, ht, fun m hm => hl m ?_⟩
  rw [messages_append]
  exact List.mem_append_left _ hm

/-- R260: a pulse inside an operation of the program leaves of its messages the first ones. -/
theorem scan_emits_legal {i : Instr} {s t : State} (hi : ∀ m, i ≠ .ofMsg m) (h : exec i s = .next t) :
    Emits (LegalMessage s.mode) s t := by
  obtain ⟨u, hu⟩ := exec_next i (s.setResets [])
  obtain ⟨before, after, ht, hu'⟩ := exec_events h hu
  exact .of_prefix ht hu' (exec_emits_legal (s := s.setResets []) rfl hi hu)

/-- Settles O18: a reset and a halted block send nothing, and an operation of the program what its mode allows. -/
theorem onlyLegalMessagesLeave : Obligations.OnlyLegalMessagesLeave := by
  intro s t hoff h
  change Emits (LegalMessage s.mode) s t
  obtain ⟨rs, rfl | hst⟩ := step_cases h
  · exact .silent rfl
  cases hst with
  | idle halted same => exact same ▸ .silent rfl
  | message m running waiting ran => exact absurd hoff waiting
  | scan i running atPc ran => exact scan_emits_legal (s := s.setResets rs) (iter_ne_ofMsg atPc) ran

end Sys2Proof.Claims

/-! SUPPORT. What the statements of 30_encoding.md rest on: the fields of the two word formats as numbers, the decoder
on the encoder's words and the encoder on the decoded ones, and which words the decoder refuses. -/

namespace Sys2Proof

/-! ## The fields of a word -/

theorem scanOp_toNat (w : Byte) : (scanOp w).toNat = w.toNat / 16 := by
  rw [scanOp, BitVec.extractLsb'_toNat, Nat.shiftRight_eq_div_pow]
  omega

theorem scanIdx_toNat (w : Byte) : (scanIdx w).toNat = w.toNat % 16 := by
  rw [scanIdx, BitVec.extractLsb'_toNat, Nat.shiftRight_zero]

theorem sinkKind_toNat (w : SinkWord) : (sinkKind w).toNat = w.toNat / 16384 := by
  rw [sinkKind, BitVec.extractLsb'_toNat, Nat.shiftRight_eq_div_pow]
  omega

theorem sinkA_toNat (w : SinkWord) : (sinkA w).toNat = w.toNat / 128 % 128 := by
  rw [sinkA, BitVec.extractLsb'_toNat, Nat.shiftRight_eq_div_pow]

theorem sinkB_toNat (w : SinkWord) : (sinkB w).toNat = w.toNat % 128 := by
  rw [sinkB, BitVec.extractLsb'_toNat, Nat.shiftRight_zero]

/-- Joining two bit vectors puts the second one's value below the first one's. -/
theorem toNat_append_eq_add {m n : Nat} (x : BitVec m) (y : BitVec n) :
    (x ++ y).toNat = x.toNat * 2 ^ n + y.toNat := by
  rw [BitVec.toNat_append, ← Nat.shiftLeft_add_eq_or_of_lt y.isLt, Nat.shiftLeft_eq]

theorem scanWord_toNat (op idx : BitVec 4) : (scanWord op idx).toNat = op.toNat * 16 + idx.toNat := by
  rw [scanWord, BitVec.toNat_cast, toNat_append_eq_add]
  rfl

theorem sinkWord_toNat (kind : BitVec 2) (a b : Q) :
    (sinkWord kind a b).toNat = kind.toNat * 16384 + a.toNat * 128 + b.toNat := by
  rw [sinkWord, BitVec.toNat_cast, toNat_append_eq_add, toNat_append_eq_add]
  omega

/-! ## Words from fields and fields from words -/

@[simp] theorem sinkKind_sinkWord (kind : BitVec 2) (a b : Q) : sinkKind (sinkWord kind a b) = kind :=
  BitVec.eq_of_toNat_eq (by rw [sinkKind_toNat, sinkWord_toNat]; omega)

@[simp] theorem sinkA_sinkWord (kind : BitVec 2) (a b : Q) : sinkA (sinkWord kind a b) = a :=
  BitVec.eq_of_toNat_eq (by rw [sinkA_toNat, sinkWord_toNat]; omega)

@[simp] theorem sinkB_sinkWord (kind : BitVec 2) (a b : Q) : sinkB (sinkWord kind a b) = b :=
  BitVec.eq_of_toNat_eq (by rw [sinkB_toNat, sinkWord_toNat]; omega)

theorem scanWord_eq_of_fields {w : Byte} {op idx : BitVec 4} (hop : (scanOp w).toNat = op.toNat)
    (hidx : (scanIdx w).toNat = idx.toNat) : scanWord op idx = w := by
  rw [scanOp_toNat] at hop
  rw [scanIdx_toNat] at hidx
  exact BitVec.eq_of_toNat_eq (by rw [scanWord_toNat]; omega)

theorem sinkWord_eq_of_kind {w : SinkWord} {kind : BitVec 2} (hkind : (sinkKind w).toNat = kind.toNat) :
    sinkWord kind (sinkA w) (sinkB w) = w := by
  rw [sinkKind_toNat] at hkind
  exact BitVec.eq_of_toNat_eq (by rw [sinkWord_toNat, sinkA_toNat, sinkB_toNat]; omega)

/-! ## The round trips -/

/-- R86: the word of a message spells the message row with its fields. -/
theorem decodeSink_encodeMsg (m : Msg) : decodeSink (encodeMsg m) = .ok (.ofMsg m) := by
  cases m <;> simp [encodeMsg, decodeSink, Instr.ofMsg]

/-- R81, R86: the encoder's word of an instruction is of the table's row for it, operands included. -/
theorem decode_encode (i : Instr) : decode (encode i) = .ok i := by
  cases i with
  | noteOn note vel => exact decodeSink_encodeMsg (.noteOn note vel)
  | noteOff note vel => exact decodeSink_encodeMsg (.noteOff note vel)
  | cc ctrl val => exact decodeSink_encodeMsg (.cc ctrl val)
  | _ => rfl

/-- R81: the fields of a scan word that spells an operation are those the operation is encoded with. -/
theorem encode_of_decodeScan {w : Byte} {i : Instr} (h : decodeScan w = .ok i) : encode i = .scan w := by
  unfold decodeScan at h
  split at h
  case h_23 => cases h
  all_goals
    obtain rfl := Except.ok.inj h
    exact congrArg CodeWord.scan (scanWord_eq_of_fields ‹_› ‹_›)

/-- R86: the fields of a sink word that spells a message are those the message is encoded with. -/
theorem encode_of_decodeSink {w : SinkWord} {i : Instr} (h : decodeSink w = .ok i) : encode i = .sink w := by
  unfold decodeSink at h
  split at h
  case h_4 => cases h
  all_goals
    obtain rfl := Except.ok.inj h
    exact congrArg CodeWord.sink (sinkWord_eq_of_kind ‹_›)

/-! ## The refused words -/

/-- R84: a scan word is refused under no other name than its own. -/
theorem eq_reservedScan_of_decodeScan {w : Byte} {e : DecodeError} (h : decodeScan w = .error e) :
    e = .reservedScan w := by
  unfold decodeScan at h
  split at h
  case h_23 => exact (Except.error.inj h).symm
  all_goals cases h

theorem decodeScan_reserved_iff (w : Byte) :
    decodeScan w = .error (.reservedScan w) ↔ scanWordLegal w = false := by
  rw [← Bool.not_eq_true, Laws.scanWordLegal_iff]
  cases h : decodeScan w with
  | ok i => simp
  | error e => simp [eq_reservedScan_of_decodeScan h]

/-- R84: no `op` from 7 on is in the table of R81. -/
theorem maxIdx_eq_none {op : Nat} (h : 7 ≤ op) : maxIdx op = none := by
  unfold maxIdx
  split
  case h_8 => rfl
  all_goals omega

/-- R84: above the largest `idx` of each `op` of R81 begin the listed ranges, and from `op` 7 on every word is in one. -/
theorem scanWordLegal_eq_false_iff (w : Byte) : scanWordLegal w = false ↔ Claims.ReservedScanWord w.toNat := by
  have hw : w.toNat < 256 := w.isLt
  unfold scanWordLegal Claims.ReservedScanWord
  by_cases hop : w.toNat / 16 < 7
  · interval_cases h : w.toNat / 16
    all_goals
      simp only [maxIdx, decide_eq_false_iff_not]
      omega
  · simp only [maxIdx_eq_none (Nat.le_of_not_lt hop), true_iff]
    omega

/-- R86, R87: the decoder refuses a sink word exactly when its kind is 3. -/
theorem decodeSink_reserved_iff (w : SinkWord) :
    decodeSink w = .error (.reservedSink w) ↔ (sinkKind w).toNat = 3 := by
  constructor
  · intro h
    by_contra hkind
    rw [sinkKind_toNat] at hkind
    obtain ⟨i, hi⟩ := Machine.decodeSink_of_legal (decide_eq_true hkind)
    rw [hi] at h
    cases h
  · intro hkind
    simp only [decodeSink, hkind]

end Sys2Proof

namespace Sys2Proof.Claims

/-- Settles O1: a scan operation's word is a constant of the table, a message's word gives its fields back. -/
theorem decodeOfEncode : Obligations.DecodeOfEncode := fun i _ => decode_encode i

/-- Settles O2: a decoded word's fields are those its instruction is encoded with. -/
theorem encodeOfDecode : Obligations.EncodeOfDecode := by
  intro w i h
  cases w with
  | scan w => exact encode_of_decodeScan h
  | sink w => exact encode_of_decodeSink h

/-- Settles O3: by evaluation of the decoder on the thirteen words. -/
theorem wordsOfTheTables : Obligations.WordsOfTheTables := by
  unfold Obligations.WordsOfTheTables
  decide

/-- Settles O4: the words the decoder refuses are those R81 does not list, and they fill the ranges of R84. -/
theorem reservedScanWordsRefused : Obligations.ReservedScanWordsRefused := by
  refine ⟨fun w => ?_, fun p => ?_, by decide⟩
  · rw [decodeScan_reserved_iff, scanWordLegal_eq_false_iff]
  · simp [scanProgramLegal, scanWordLegal_eq_false_iff]

/-- Settles O5: the value of a word joined from its fields, and kind 3 as the words from 0xC000 on. -/
theorem sinkWordFields : Obligations.SinkWordFields := by
  refine ⟨fun a b => ⟨sinkWord_toNat 0 a b, sinkWord_toNat 1 a b, sinkWord_toNat 2 a b⟩, fun w => ?_⟩
  rw [decodeSink_reserved_iff, sinkKind_toNat]
  omega

end Sys2Proof.Claims

/-! SUPPORT. What the statements of 40_sequencer.md rest on: an instruction brings no pulse of `RST`, what a step of a
running block is and leaves behind, and runs of several steps. -/

namespace Sys2Proof.Machine

open Sys2Proof.Claims

/-! ## No pulse arises -/

theorem Op.TimedAt.ended_noReset {op : Op Unit} {s : State} {events : List Event} (h : op.TimedAt s events) :
    NoReset (Op.ended (op s)) := by
  obtain ⟨h, -⟩ := h
  cases ho : op s with
  | ok a t =>
    rw [ho] at h
    exact h.1
  | error w t =>
    rw [ho] at h
    cases w with
    | exc e => exact h.1
    | rst => exact h.elim

theorem exec_noReset {i : Instr} {s t : State} (hs : NoReset s) (h : exec i s = .next t) : NoReset t := by
  obtain ⟨op, hop, he⟩ := exec_timed i
  obtain ⟨events, htimed⟩ := hop s hs
  obtain rfl := next_unique (he s) h
  exact htimed.ended_noReset

/-! ## A step of a running block -/

/-- R110, R111. -/
theorem step_eq_exec {s : State} (hs : NoReset s) (hrun : Scanning s) {w : Byte} {i : Instr}
    (hw : scanWordAt s.pc = some w) (hi : decodeScan w = .ok i) : step s = exec i s := by
  obtain ⟨hh, hoff⟩ := hrun
  have hf : fetch s = .run i s := by
    simp [fetch_noReset hs, fetchRunning, hh, hoff, fetchScan, hw, hi]
  rw [step, hf]

theorem step_ran {s t : State} (hs : NoReset s) (hrun : Scanning s) (h : step s = .next t) :
    ∃ i, exec i s = .next t := by
  obtain ⟨hh, hoff⟩ := hrun
  cases step_noReset hs h with
  | idle halted same => exact absurd (hh.symm.trans halted) (by decide)
  | message m running waiting ran => exact absurd hoff waiting
  | scan i running atPc ran => exact ⟨i, ran⟩

end Sys2Proof.Machine

namespace Sys2Proof.Claims

open Sys2Proof.Machine Sys2Proof.Safety

/-- R22, R112, R113: a running block's step ends in a halt, or runs on at the next position, which after 21 is 0. -/
theorem step_halts_or_moves {s : State} (hs : NoReset s) (hrun : Scanning s) (hpc : PcInProgram s) :
    ∃ t, step s = .next t ∧ NoReset t ∧
      (t.halt = true ∨ (Scanning t ∧ t.pc = if s.pc = 21#5 then 0#5 else s.pc + 1#5)) := by
  have ⟨_, hempty⟩ := hrun
  have hport : ∀ w, s.offered = some w → sinkWordLegal w = true := fun w hw => absurd (hempty.symm.trans hw) nofun
  obtain ⟨t, ht⟩ := stepAlwaysGoesOn s hpc hport
  obtain ⟨i, hi⟩ := step_ran hs hrun ht
  obtain ⟨-, -, -, -, hoff, -⟩ := controlRegistersWrittenOnlyBy i s t hs hi
  have hnext := sequencingOfSteps s t hs hrun ht
  refine ⟨t, ht, exec_noReset hs hi, ?_⟩
  by_cases hh : t.halt = true
  · exact .inl hh
  · rw [if_neg hh] at hnext
    exact .inr ⟨⟨by simpa using hh, hoff.trans hempty⟩, hnext⟩

/-! ## Runs -/

theorem after_succ_iff {n : Nat} {s t : State} : After (n + 1) s t ↔ ∃ u, step s = .next u ∧ After n u t := by
  simp only [After, Host.Core.run, show core.step s = step s from rfl]
  cases step s with
  | next u => exact ⟨fun h => ⟨u, rfl, h⟩, fun ⟨v, hv, h⟩ => by injection hv with hv; exact hv ▸ h⟩
  | fault r => exact ⟨nofun, fun ⟨_, hv, _⟩ => absurd hv nofun⟩
  | refused r => exact ⟨nofun, fun ⟨_, hv, _⟩ => absurd hv nofun⟩

/-- R22, log entry 6. -/
theorem after_halted {s : State} (hs : NoReset s) (hh : s.halt = true) (n : Nat) : After n s s := by
  obtain ⟨-, hstays, -⟩ := haltedUntilReset
  induction n with
  | zero => rfl
  | succ n ih => exact after_succ_iff.mpr ⟨s, hstays s hh hs, ih⟩

/-- R115: what is left of an iteration, with n positions still to come after the present one. -/
theorem rest_of_iteration (n : Nat) {s : State} (hs : NoReset s) (hrun : Scanning s) (hpc : s.pc.toNat + n = 21) :
    ∃ t, After (n + 1) s t ∧ (t.halt = true ∨ (Scanning t ∧ t.pc = 0#5)) := by
  induction n generalizing s with
  | zero =>
    have hlast : s.pc = 21#5 := BitVec.eq_of_toNat_eq hpc
    obtain ⟨t, ht, -, hend⟩ := step_halts_or_moves hs hrun hpc.le
    rw [if_pos hlast] at hend
    exact ⟨t, after_succ_iff.mpr ⟨t, ht, rfl⟩, hend⟩
  | succ n ih =>
    have hnotLast : s.pc ≠ 21#5 := by
      intro h
      simp [h] at hpc
    obtain ⟨u, hu, hu', hend⟩ := step_halts_or_moves hs hrun (by omega)
    rw [if_neg hnotLast] at hend
    obtain hh | ⟨hrun', hmove⟩ := hend
    · exact ⟨u, after_succ_iff.mpr ⟨u, hu, after_halted hu' hh _⟩, .inl hh⟩
    · have hpc' : u.pc.toNat + n = 21 := by
        rw [hmove]
        bv_omega
      obtain ⟨t, ht, hend⟩ := ih hu' hrun' hpc'
      exact ⟨t, after_succ_iff.mpr ⟨u, hu, ht⟩, hend⟩

/-- Settles O15: at position 0 the whole iteration is left. -/
theorem iterationReturnsToStart : Obligations.IterationReturnsToStart :=
  fun _ hs hrun hpc => rest_of_iteration 21 hs hrun (by rw [hpc]; rfl)

/-- Settles O6: the words by evaluation, the step by what it fetches. -/
theorem stepRunsTheWordAtPc : Obligations.StepRunsTheWordAtPc :=
  ⟨by decide, fun _ _ _ hs hrun hw hi => step_eq_exec hs hrun hw hi⟩

/-- Settles O27: the word and its position by evaluation, the effect by the run of `SLEEP`. -/
theorem sleepRule : Obligations.SleepRule :=
  ⟨rfl, by decide, fun _ hs => exec_sleep_eq hs⟩

end Sys2Proof.Claims

/-! SUPPORT. What the statements of 41_input_scanner.md rest on besides the whole effect of each instruction: the words
and positions of the keys, and a guarded key as its poll alone. -/

namespace Sys2Proof.Claims

open Sys2Proof.Machine

/-- R81, R110: the keys' words and positions count up with the key. -/
theorem key_word_and_position (k : Fin 8) :
    encode (.key k) = .scan (BitVec.ofNat 8 (0x10 + k.val)) ∧
      Config.scanProgram.toList[1 + k.val]? = some (BitVec.ofNat 8 (0x10 + k.val)) := by
  revert k
  decide

/-- R128: under the guard a key is its poll. -/
theorem keyScanned_of_guarded (T : Config.Tables) {k : Fin 8} {s : State} (hm : s.mode = 1) (hk : k = 0 ∨ k = 3) :
    keyScanned T k s = nextPosition (polled (keyPin k) s) :=
  if_pos ⟨hm, hk⟩

/-- Settles O21: the word and its position for each of the eight keys, the effect by the run of the key's operation. -/
theorem keyRule : Obligations.KeyRule := fun k =>
  have ⟨hword, hposition⟩ := key_word_and_position k
  ⟨hword, hposition, fun _ hs => exec_key_eq hs k⟩

/-- Settles O22: the word and its position by evaluation, the effect by the run of `MODEB`. -/
theorem modeButtonRule : Obligations.ModeButtonRule :=
  ⟨rfl, by decide, fun _ hs => exec_modeb_eq hs⟩

/-- Settles O23: the words and positions by evaluation, the effect by the run of the encoder operation on each side. -/
theorem encoderRules : Obligations.EncoderRules :=
  ⟨rfl, by decide, rfl, by decide, fun _ hs => ⟨exec_enc_eq hs 0, exec_enc_eq hs 1⟩⟩

/-- Settles O32: both keys are guarded, and a poll writes its sample and its event only. -/
theorem gateKeysSilentInModeOne : Obligations.GateKeysSilentInModeOne := by
  intro k s hk hm hs
  refine ⟨nextPosition (polled (keyPin k) s), ?_, fileGet_fileSet_same .., rfl, rfl, rfl, rfl, rfl⟩
  rw [exec_key_eq hs k, keyScanned_of_guarded _ hm hk]

end Sys2Proof.Claims

/-! SUPPORT. What the statements of 42_analog_scanner.md rest on besides the whole effect of each instruction: the words
and positions of the channels, the scan of a quantized channel as one report, and the quantizer's value and steps. -/

namespace Sys2Proof.Machine

open Sys2Proof.Claims

/-! ## The quantizer -/

/-- R12: the clamp as a number. -/
theorem clampQ_toNat (v : ℤ) : ((clampQ v).toNat : ℤ) = max 0 (min 127 v) := by
  rw [clampQ_eq]
  split_ifs <;> rw [BitVec.toNat_ofNat] <;> omega

/-- The term of R145 that is taken from 127, in the integer form of R146. -/
def quantSteps (raw : Raw) : Nat := (254 * raw.toNat + 65535) / 131070

theorem quantSteps_le (raw : Raw) : quantSteps raw ≤ 127 := by
  have hraw : raw.toNat < 65536 := raw.isLt
  rw [quantSteps]
  omega

theorem quantSteps_mono {a b : Raw} (h : a.toNat ≤ b.toNat) : quantSteps a ≤ quantSteps b :=
  Nat.div_le_div_right (by omega)

theorem quant_eq_clampQ_sub_quantSteps (raw : Raw) : quant raw = clampQ (127 - (quantSteps raw : ℤ)) := by
  rw [quant_eq, quantSteps]
  push_cast
  rfl

/-- R146: the clamp never acts. -/
theorem quant_toNat (raw : Raw) : (quant raw).toNat = 127 - quantSteps raw := by
  have hclamp := clampQ_toNat (127 - (quantSteps raw : ℤ))
  have hle := quantSteps_le raw
  rw [quant_eq_clampQ_sub_quantSteps]
  omega

/-- R146: rounding is the floor of the term plus one half. -/
theorem round_eq_quantSteps (raw : Raw) : round ((raw.toNat : ℚ) / 65535 * 127) = (quantSteps raw : ℤ) := by
  have hhalf : (raw.toNat : ℚ) / 65535 * 127 + 1 / 2 = ((254 * raw.toNat + 65535 : ℕ) : ℚ) / (131070 : ℕ) := by
    push_cast
    ring
  rw [round_eq, hhalf, Rat.floor_natCast_div_natCast, quantSteps, Int.natCast_ediv]

/-- R147: the formula of the thresholds 1 to 127. -/
theorem threshold_of_inner {n : Nat} (h1 : 1 ≤ n) (h127 : n ≤ 127) :
    threshold n = ((2 * n - 1) * 65535 + 253) / 254 := by
  rw [threshold, if_neg (by omega), if_pos h127]

/-- R147: threshold n is the first sample of at least n steps. -/
theorem threshold_le_iff {n : Nat} (hn : n ≤ 128) (raw : Raw) : threshold n ≤ raw.toNat ↔ n ≤ quantSteps raw := by
  have hraw : raw.toNat < 65536 := raw.isLt
  have hle := quantSteps_le raw
  obtain rfl | rfl | ⟨h1, h127⟩ : n = 0 ∨ n = 128 ∨ (1 ≤ n ∧ n ≤ 127) := by omega
  · exact iff_of_true (Nat.zero_le _) (Nat.zero_le _)
  · exact iff_of_false (Nat.not_le.mpr hraw) (by omega)
  · rw [threshold_of_inner h1 h127, quantSteps]
    omega

end Sys2Proof.Machine

namespace Sys2Proof.Claims

open Sys2Proof.Machine Sys2Proof.Safety

/-- Settles O39: the rounded term is the model's, and the clamp is the rule's. -/
theorem quantizerFormula : Obligations.QuantizerFormula := by
  intro raw
  rw [quant_eq_clampQ_sub_quantSteps, clampQ_toNat, round_eq_quantSteps]

/-- R147: an output's inputs lie between two thresholds. -/
theorem quant_eq_iff_between_thresholds (raw : Raw) {n : Nat} (hn : n ≤ 127) :
    (quant raw).toNat = 127 - n ↔ threshold n ≤ raw.toNat ∧ raw.toNat < threshold (n + 1) := by
  have hle := quantSteps_le raw
  rw [quant_toNat, ← Nat.not_le, threshold_le_iff (by omega), threshold_le_iff (by omega)]
  omega

/-- R147: an output other than the first and the last has 516 or 517 inputs. -/
theorem threshold_gap {n : Nat} (h1 : 1 ≤ n) (h126 : n ≤ 126) :
    threshold (n + 1) - threshold n = 516 ∨ threshold (n + 1) - threshold n = 517 := by
  rw [threshold_of_inner h1 (by omega), threshold_of_inner (by omega) (by omega)]
  omega

/-- Settles O40: the quantizer falls by one at each threshold; the listed values by evaluation. -/
theorem quantizerProperties : Obligations.QuantizerProperties := by
  refine ⟨fun raw => ?_, fun a b h => ?_, fun raw n hn => quant_eq_iff_between_thresholds raw hn, by decide,
    ⟨by decide, by decide, fun n h1 h126 => threshold_gap h1 h126⟩, by decide⟩
  · rw [quant_toNat]
    exact Nat.sub_le ..
  · rw [quant_toNat, quant_toNat]
    exact Nat.sub_le_sub_left (quantSteps_mono h) 127

/-! ## The words and positions of the channels -/

/-- R81, R110: the multiplexed channels' words and positions count up with the channel. -/
theorem mux_word_and_position (i : Fin 7) :
    encode (.mux i) = .scan (BitVec.ofNat 8 (0x30 + i.val)) ∧
      Config.scanProgram.toList[10 + i.val]? = some (BitVec.ofNat 8 (0x30 + i.val)) := by
  revert i
  decide

/-- R81, R110: and so do the direct channels'. -/
theorem dir_word_and_position (j : Fin 2) :
    encode (.dir j) = .scan (BitVec.ofNat 8 (0x40 + j.val)) ∧
      Config.scanProgram.toList[17 + j.val]? = some (BitVec.ofNat 8 (0x40 + j.val)) := by
  revert j
  decide

/-- Settles O24: the word and its position by evaluation, the effect by the run of `MUX0`. -/
theorem mux0Rule : Obligations.Mux0Rule :=
  ⟨rfl, by decide, fun _ hs => exec_mux0_eq hs⟩

/-- Settles O25: the word and its position for each channel, the effect by the run of the channel's operation. -/
theorem muxRule : Obligations.MuxRule := fun i hi =>
  have ⟨hword, hposition⟩ := mux_word_and_position i
  ⟨hword, hposition, fun _ hs => exec_mux_eq hs hi⟩

/-- Settles O26: the word and its position for both channels, the effect by the run of the channel's operation. -/
theorem directRule : Obligations.DirectRule := fun j =>
  have ⟨hword, hposition⟩ := dir_word_and_position j
  ⟨hword, hposition, fun _ hs => exec_dir_eq hs j⟩

/-! ## Duplicate suppression -/

/-- R152: the value last sent is not reported again. -/
theorem reported_same {c : Fin 9} {ctrl q : Q} {s : State} (h : fileGet s.last c = some q) :
    reported c ctrl q s = nextPosition s :=
  if_pos h

/-- R149 to R151: a report that did not halt leaves its value as the one last sent. -/
theorem last_of_reported {c : Fin 9} {ctrl q : Q} {s : State} (h : (reported c ctrl q s).halt = false) :
    fileGet (reported c ctrl q s).last c = some q := by
  by_cases hl : fileGet s.last c = some q
  · rwa [reported_same hl]
  · rw [reported, if_neg hl, sending] at h ⊢
    by_cases hf : s.failNow = true
    · rw [if_pos hf] at h
      exact absurd h nofun
    · rw [if_neg hf]
      exact fileGet_fileSet_same ..

/-- From `s` the instruction scans channel c as a quantized one: it takes a sample, which sends nothing and changes
neither `LAST` nor `HALT`, and reports it. -/
def ScansChannel (i : Instr) (c : Fin 9) (s : State) : Prop :=
  ∃ (ctrl : Q) (sampled : State), exec i s = .next (reported c ctrl (quant s.sampleNow) sampled) ∧
    sampled.last = s.last ∧ sampled.halt = s.halt ∧ messages sampled.trace = messages s.trace

theorem mux_scansChannel {i : Fin 7} (hi : i ≠ 0) {s : State} (hs : NoReset s) :
    ScansChannel (.mux i) (muxChannel i) s :=
  ⟨_, _, exec_mux_eq hs hi, rfl, rfl, by simp [acquired, messages]⟩

theorem dir_scansChannel (j : Fin 2) {s : State} (hs : NoReset s) : ScansChannel (.dir j) (dirChannel j) s :=
  ⟨_, _, exec_dir_eq hs j, rfl, rfl, by simp [messages]⟩

theorem mux0_scansChannel {s : State} (hs : NoReset s) (hm : s.mode ≠ 1) : ScansChannel .mux0 0 s :=
  ⟨_, _, (exec_mux0_eq hs).trans (congrArg _ (if_neg hm)), rfl, rfl, by simp [acquired, messages]⟩

/-- Settles O35: the first scan leaves the value as the one last sent, and so the second reports nothing. -/
theorem noDuplicateReports : Obligations.NoDuplicateReports := by
  intro i s t u hchannel hs hu _ ht hhalt hlast hquant
  obtain ⟨c, ⟨_, _, hfirst, -⟩, ⟨ctrl, sampled, hsecond, hlast', hhalt', hmessages⟩⟩ :
      ∃ c, ScansChannel i c s ∧ ScansChannel i c u := by
    obtain ⟨k, hk, rfl⟩ | ⟨j, rfl⟩ | ⟨rfl, hms, hmu⟩ := hchannel
    · exact ⟨_, mux_scansChannel hk hs, mux_scansChannel hk hu⟩
    · exact ⟨_, dir_scansChannel j hs, dir_scansChannel j hu⟩
    · exact ⟨_, mux0_scansChannel hs hms, mux0_scansChannel hu hmu⟩
  have hsame : fileGet sampled.last c = some (quant u.sampleNow) := by
    obtain rfl := next_unique hfirst ht
    rw [hlast', hlast, hquant, last_of_reported hhalt]
  rw [reported_same hsame] at hsecond
  exact ⟨_, hsecond, hmessages, hlast', hhalt'⟩

/-! ## Independence of the mode -/

/-- R149, R151: a report does not look at the mode. -/
theorem setMode_reported (c : Fin 9) (ctrl q : Q) (s : State) (m : Fin 7) :
    (reported c ctrl q s).setMode m = reported c ctrl q (s.setMode m) := by
  rw [reported, reported, sending, sending, apply_ite (State.setMode m), apply_ite (State.setMode m)]
  rfl

theorem muxScanned_setMode (i : Fin 7) (s : State) (m : Fin 7) :
    muxScanned i (s.setMode m) = (muxScanned i s).setMode m := by
  rw [muxScanned, muxScanned, setMode_reported]
  rfl

theorem dirScanned_setMode (j : Fin 2) (s : State) (m : Fin 7) :
    dirScanned j (s.setMode m) = (dirScanned j s).setMode m := by
  rw [dirScanned, dirScanned, setMode_reported]
  rfl

/-- Settles O36: a channel's sample is taken, and then reported, in the same way in every mode. -/
theorem channelsIgnoreTheMode : Obligations.ChannelsIgnoreTheMode := by
  intro i m s t hchannel hs ht
  obtain ⟨k, hk, rfl⟩ | ⟨j, rfl⟩ := hchannel
  · obtain rfl := next_unique (exec_mux_eq hs hk) ht
    exact (exec_mux_eq (s := s.setMode m) hs hk).trans (congrArg _ (muxScanned_setMode k s m))
  · obtain rfl := next_unique (exec_dir_eq hs j) ht
    exact (exec_dir_eq (s := s.setMode m) hs j).trans (congrArg _ (dirScanned_setMode j s m))

end Sys2Proof.Claims

/-! SUPPORT. What the statements of 43_delta_controller.md rest on besides the whole effect of `MUX0`: the delta step as
a division by 512, what one delta instance can write, and `MUX0` in mode 1 as its two instances in turn. -/

namespace Sys2Proof.Machine

/-! ## The delta step -/

/-- R167, with the divisor's value in place. -/
theorem deltaStep_eq (ref raw : Raw) : deltaStep ref raw = ((ref.toNat : ℤ) - raw.toNat) / 512 := rfl

/-- R168: against itself a sample gives no step. -/
@[simp] theorem deltaStep_self (raw : Raw) : deltaStep raw raw = 0 := by
  simp [deltaStep_eq]

/-- R167: toward minus infinity. -/
theorem deltaStep_eq_floor (ref raw : Raw) : deltaStep ref raw = ⌊((ref.toNat : ℚ) - (raw.toNat : ℚ)) / 512⌋ := by
  have h := Rat.floor_intCast_div_natCast ((ref.toNat : ℤ) - raw.toNat) 512
  push_cast at h
  rw [h, deltaStep_eq]

/-- R167: the table's general row. -/
theorem deltaStep_eq_iff (ref raw : Raw) (n : ℤ) :
    deltaStep ref raw = n ↔
      512 * n ≤ (ref.toNat : ℤ) - raw.toNat ∧ (ref.toNat : ℤ) - raw.toNat ≤ 512 * n + 511 := by
  rw [deltaStep_eq]
  omega

/-- R167: the range of d, from the 16 bits of the two samples. -/
theorem deltaStep_bounds (ref raw : Raw) : -128 ≤ deltaStep ref raw ∧ deltaStep ref raw ≤ 127 := by
  have href : ref.toNat < 65536 := ref.isLt
  have hraw : raw.toNat < 65536 := raw.isLt
  rw [deltaStep_eq]
  omega

end Sys2Proof.Machine

namespace Sys2Proof.Claims

open Sys2Proof.Machine Sys2Proof.Safety

/-- Settles O41: the step is an integer division by 512, and the clamp is the rule's. -/
theorem deltaArithmetic : Obligations.DeltaArithmetic := by
  refine ⟨fun ref raw => ?_, clampQ_toNat⟩
  obtain ⟨hlow, hhigh⟩ := deltaStep_bounds ref raw
  refine ⟨deltaStep_eq_floor ref raw, hlow, hhigh, fun acc => ?_, deltaStep_eq_iff ref raw⟩
  have hacc : acc.toNat < 128 := acc.isLt
  omega

/-! ## One delta instance -/

/-- R166 without a move: the gate's level is recorded, and the sample is the reference of a gate that is held. -/
def gateRecorded (j : Fin 2) (p : Fin 11) (raw : Raw) (s : State) : State :=
  { lineRead p s with
    ref := if s.levelNow = low then fileSet s.ref j (some raw) else s.ref
    gwp := fileSet s.gwp j (decide (s.levelNow = low)) }

section

variable (j : Fin 2) (p : Fin 11) (raw : Raw) (s : State)

@[simp] theorem gateRecorded_acc : (gateRecorded j p raw s).acc = s.acc := rfl

@[simp] theorem gateRecorded_last : (gateRecorded j p raw s).last = s.last := rfl

@[simp] theorem gateRecorded_halt : (gateRecorded j p raw s).halt = s.halt := rfl

@[simp] theorem gateRecorded_sinkMsg : (gateRecorded j p raw s).sinkMsg = s.sinkMsg := rfl

@[simp] theorem messages_gateRecorded : messages (gateRecorded j p raw s).trace = messages s.trace := by
  simp [gateRecorded, lineRead, messages]

end

/-- R168: a call that sees a rising edge, or finds the sample as its reference, only records the gate. -/
theorem deltaScanned_of_no_difference {j : Fin 2} {p : Fin 11} {ctrl : Q} {raw : Raw} {s : State}
    {after : State → State} (h : fileGet s.gwp j = false ∨ fileGet s.ref j = some raw) :
    deltaScanned j p ctrl raw s after = after (gateRecorded j p raw s) := by
  have hcaptured : (if fileGet s.gwp j = false then some raw else fileGet s.ref j) = some raw := by
    split_ifs with hg
    · rfl
    · exact h.resolve_left hg
  rw [deltaScanned, gateRecorded, hcaptured]
  by_cases hl : s.levelNow = low
  · simp only [hl, deltaStep_self, true_or, if_true, decide_true]
    rfl
  · simp only [hl, if_false, decide_false]
    rfl

theorem ref_of_gateRecorded_held {j : Fin 2} {p : Fin 11} {raw : Raw} {s : State}
    (h : fileGet (gateRecorded j p raw s).gwp j = true) : fileGet (gateRecorded j p raw s).ref j = some raw := by
  have hl : s.levelNow = low := by simpa [gateRecorded] using h
  simp [gateRecorded, hl]

theorem gateRecorded_keeps_ref {j : Fin 2} {p : Fin 11} {raw : Raw} {s : State} (h : fileGet s.ref j = some raw) :
    fileGet (gateRecorded j p raw s).ref j = some raw := by
  by_cases hl : s.levelNow = low <;> simp [gateRecorded, lineRead, hl, h]

theorem gateRecorded_other {i j : Fin 2} (h : i ≠ j) (p : Fin 11) (raw : Raw) (s : State) :
    fileGet (gateRecorded i p raw s).ref j = fileGet s.ref j ∧
      fileGet (gateRecorded i p raw s).gwp j = fileGet s.gwp j := by
  refine ⟨?_, fileGet_fileSet_ne _ _ h⟩
  by_cases hl : s.levelNow = low <;> simp [gateRecorded, lineRead, hl, fileGet_fileSet_ne _ _ h]

/-- R165, R166: instance j by itself, with nothing after it. -/
def deltaAlone (j : Fin 2) (raw : Raw) (s : State) : State :=
  deltaScanned j (gatePin j) (Config.deltaCc j) raw s id

/-- R166: what follows an instance runs from the state the instance leaves, unless its send failed. -/
theorem deltaAlone_continued (j : Fin 2) (raw : Raw) (s : State) (after : State → State) :
    Continued after s (deltaAlone j raw s) (deltaScanned j (gatePin j) (Config.deltaCc j) raw s after) := by
  rw [deltaAlone, deltaScanned, deltaScanned]
  by_cases hl : s.levelNow = low
  · rw [if_pos hl, if_pos hl]
    generalize (if fileGet s.gwp j = false then some raw else fileGet s.ref j) = captured
    cases captured with
    | none => exact continued_went rfl rfl
    | some r =>
      simp only [sending]
      split_ifs
      · exact continued_went rfl rfl
      · exact continued_halted rfl rfl
      · exact continued_went rfl rfl
  · rw [if_neg hl, if_neg hl]
    exact continued_went rfl rfl

/-- R166: an instance writes its own entries only, and its accumulator or reference changes only together with the
sample becoming its reference. -/
theorem deltaAlone_writes (j : Fin 2) (raw : Raw) (s : State) :
    ∃ a r g,
      TalksOnly { s with acc := fileSet s.acc j a, ref := fileSet s.ref j r, gwp := fileSet s.gwp j g }
        (deltaAlone j raw s) ∧
      ((a = fileGet s.acc j ∧ r = fileGet s.ref j) ∨ r = some raw) := by
  rw [deltaAlone, deltaScanned]
  by_cases hl : s.levelNow = low
  · rw [if_pos hl]
    have hcaptured : (if fileGet s.gwp j = false then some raw else fileGet s.ref j) = fileGet s.ref j ∨
        (if fileGet s.gwp j = false then some raw else fileGet s.ref j) = some raw := by
      split_ifs
      · exact .inr rfl
      · exact .inl rfl
    generalize (if fileGet s.gwp j = false then some raw else fileGet s.ref j) = captured at hcaptured ⊢
    have hstill := hcaptured.imp_left (And.intro (rfl : fileGet s.acc j = fileGet s.acc j))
    have hacc : s.acc = fileSet s.acc j (fileGet s.acc j) := (fileSet_fileGet ..).symm
    have hgwp : s.gwp = fileSet s.gwp j (fileGet s.gwp j) := (fileSet_fileGet ..).symm
    cases captured with
    | none => exact ⟨_, _, true, by rw [← hacc]; rfl, hstill⟩
    | some r =>
      simp only [sending]
      split_ifs
      · exact ⟨_, _, true, by rw [← hacc]; rfl, hstill⟩
      · exact ⟨_, _, _, by rw [← hacc, ← hgwp]; rfl, hstill⟩
      · exact ⟨_, some raw, true, by rw [← fileSet_fileSet_same s.ref j (some r)]; rfl, .inr rfl⟩
  · rw [if_neg hl]
    exact ⟨fileGet s.acc j, fileGet s.ref j, false, by rw [fileSet_fileGet, fileSet_fileGet]; rfl,
      .inl ⟨rfl, rfl⟩⟩

/-- R165: the other instance's accumulator and reference stay. -/
theorem deltaAlone_other {i j : Fin 2} (h : i ≠ j) (raw : Raw) (s : State) :
    fileGet (deltaAlone i raw s).acc j = fileGet s.acc j ∧ fileGet (deltaAlone i raw s).ref j = fileGet s.ref j := by
  obtain ⟨a, r, g, ht, -⟩ := deltaAlone_writes i raw s
  rw [ht]
  exact ⟨fileGet_fileSet_ne _ _ h, fileGet_fileSet_ne _ _ h⟩

/-- R166: an instance leaves its accumulator and reference, or the sample as its reference. -/
theorem deltaAlone_own (j : Fin 2) (raw : Raw) (s : State) :
    (fileGet (deltaAlone j raw s).acc j = fileGet s.acc j ∧ fileGet (deltaAlone j raw s).ref j = fileGet s.ref j) ∨
      fileGet (deltaAlone j raw s).ref j = some raw := by
  obtain ⟨a, r, g, ht, hmove⟩ := deltaAlone_writes j raw s
  rw [ht]
  simpa using hmove

/-! ## `MUX0` in mode 1 -/

/-- R150, R165: what holds once the sample is taken, and both instances and the move of `PC` keep, holds after `MUX0` in
mode 1. -/
theorem mux0Scanned_delta_induction (T : Config.Tables) {P : State → Prop} {s : State} (hm : s.mode = 1)
    (hstart : P (acquired 0 s)) (hinstance : ∀ j t, P t → P (deltaAlone j s.sampleNow t))
    (hnext : ∀ t, P t → P (nextPosition t)) : P (mux0Scanned T s) := by
  rw [mux0Scanned, if_pos hm]
  have hfirst := hinstance 0 _ hstart
  have hsecond := hinstance 1 _ hfirst
  exact (deltaAlone_continued 0 s.sampleNow (acquired 0 s) _).elim hfirst
    ((deltaAlone_continued 1 s.sampleNow (deltaAlone 0 s.sampleNow (acquired 0 s)) nextPosition).elim hsecond
      (hnext _ hsecond))

/-- R166: an accumulator that `MUX0` changed has the sample as its reference. -/
theorem mux0Scanned_rebaselines (T : Config.Tables) {s : State} (hm : s.mode = 1) (j : Fin 2) :
    fileGet (mux0Scanned T s).acc j = fileGet s.acc j ∨ fileGet (mux0Scanned T s).ref j = some s.sampleNow := by
  refine mux0Scanned_delta_induction T hm
    (P := fun t => fileGet t.acc j = fileGet s.acc j ∨ fileGet t.ref j = some s.sampleNow)
    (.inl rfl) (fun i t h => ?_) (fun _ h => h)
  have hstill : fileGet (deltaAlone i s.sampleNow t).acc j = fileGet t.acc j ∧
      fileGet (deltaAlone i s.sampleNow t).ref j = fileGet t.ref j ∨
      fileGet (deltaAlone i s.sampleNow t).ref j = some s.sampleNow := by
    by_cases hij : i = j
    · exact hij ▸ deltaAlone_own i s.sampleNow t
    · exact .inl (deltaAlone_other hij s.sampleNow t)
  obtain ⟨hacc, href⟩ | href := hstill
  · rwa [hacc, href]
  · exact .inr href

/-- R165: the controllers of the two instances differ. -/
theorem deltaCc_ne {i j : Fin 2} (h : i ≠ j) : Config.deltaCc i ≠ Config.deltaCc j := by
  revert i j
  decide

/-- From `s` to `t` instance j, whose reference is the sample, neither moved nor sent. -/
def InstanceIdle (j : Fin 2) (raw : Raw) (s t : State) : Prop :=
  fileGet t.ref j = some raw ∧ fileGet t.acc j = fileGet s.acc j ∧
    Emits (fun m => ∀ val, m ≠ .cc (Config.deltaCc j) val) s t

theorem InstanceIdle.deltaAlone {j : Fin 2} {raw : Raw} {s t : State} (h : InstanceIdle j raw s t) (i : Fin 2) :
    InstanceIdle j raw s (deltaAlone i raw t) := by
  obtain ⟨href, hacc, hemits⟩ := h
  by_cases hij : i = j
  · subst hij
    rw [Claims.deltaAlone, deltaScanned_of_no_difference (.inr href)]
    exact ⟨gateRecorded_keeps_ref href, hacc, hemits.trans (.lineRead (gatePin i))⟩
  · obtain ⟨hacc', href'⟩ := deltaAlone_other hij raw t
    have hctrl : ∀ val val', Msg.cc (Config.deltaCc i) val ≠ .cc (Config.deltaCc j) val' := fun _ _ he =>
      deltaCc_ne hij (Msg.cc.inj he).1
    exact ⟨href'.trans href, hacc'.trans hacc, hemits.trans (.deltaScanned hctrl fun u => .silent rfl)⟩

/-- R168: against its own sample an instance neither moves nor sends. -/
theorem mux0Scanned_instanceIdle (T : Config.Tables) {s : State} (hm : s.mode = 1) {j : Fin 2}
    (h : fileGet s.ref j = some s.sampleNow) : InstanceIdle j s.sampleNow s (mux0Scanned T s) :=
  mux0Scanned_delta_induction T hm ⟨h, rfl, .acquired 0⟩ (fun i _ ht => ht.deltaAlone i) fun _ ht => ht

/-- Settles O42: the first `MUX0` leaves the sample as the instance's reference, and so the second finds no
difference. -/
theorem deltaRebaselines : Obligations.DeltaRebaselines := by
  intro j s t u v hs hu hms hmu ht hmoved _ href _ hsample hv
  have hcc : Config.deltaCc j = if j = 0 then 1#7 else 30#7 := by fin_cases j <;> rfl
  obtain rfl := next_unique (exec_mux0_eq hs) ht
  obtain rfl := next_unique (exec_mux0_eq hu) hv
  have hbase : fileGet u.ref j = some u.sampleNow := by
    rw [href, hsample]
    exact (mux0Scanned_rebaselines Config.tables hms j).resolve_left hmoved
  obtain ⟨-, hacc, events, htrace, hsilent⟩ := mux0Scanned_instanceIdle Config.tables hmu hbase
  exact ⟨hacc, events, htrace, fun val hmem => hsilent _ hmem val (by rw [hcc])⟩

/-- R168: with neither gate recorded, `MUX0` in mode 1 takes the sample and records both gates. -/
theorem mux0Scanned_of_gates_unrecorded (T : Config.Tables) {s : State} (hm : s.mode = 1)
    (h0 : fileGet s.gwp 0 = false) (h1 : fileGet s.gwp 1 = false) :
    mux0Scanned T s =
      nextPosition (gateRecorded 1 3 s.sampleNow (gateRecorded 0 0 s.sampleNow (acquired 0 s))) := by
  have h1' : fileGet (gateRecorded 0 0 s.sampleNow (acquired 0 s)).gwp 1 = false :=
    (fileGet_fileSet_ne _ _ (by decide)).trans h1
  rw [mux0Scanned, if_pos hm, deltaScanned_of_no_difference (.inl (by exact h0)),
    deltaScanned_of_no_difference (.inl h1')]

/-- Settles O43: both instances only record their gates, so nothing is sent and a held gate has the sample. -/
theorem risingGateCapturesSilently : Obligations.RisingGateCapturesSilently := by
  intro s hs hm h0 h1
  have hrun := exec_mux0_eq hs
  rw [mux0Scanned_of_gates_unrecorded _ hm h0 h1] at hrun
  obtain ⟨href, hgwp⟩ := gateRecorded_other (i := 1) (j := 0) (by decide) 3 s.sampleNow
    (gateRecorded 0 0 s.sampleNow (acquired 0 s))
  refine ⟨_, hrun, ?_, ?_, ?_, hgwp.trans (fileGet_fileSet_same ..),
    fun h => href.trans (ref_of_gateRecorded_held (hgwp.symm.trans h)), ref_of_gateRecorded_held (j := 1) (p := 3),
    ?_, ?_⟩ <;> simp [nextPosition, acquired, messages]

end Sys2Proof.Claims

/-! SUPPORT. What the statements of 44_mode_display_indicator.md rest on besides the whole effect of `REFRESH` and
`MODEB`: the bits of an LED mask, the entry `SEGLOOKUP` reads, and what a step of a running block can do to `MODE`. -/

namespace Sys2Proof.Machine

open Sys2Proof.Claims

/-! ## The lookup functions -/

/-- R90. -/
theorem ledBit_getLsbD_iff (j i : Nat) : (ledBit j).getLsbD i = true ↔ i ≤ 7 ∧ i = j := by
  by_cases hj : j ≤ 7
  · rw [ledBit, if_pos hj, BitVec.getLsbD_shiftLeft, BitVec.getLsbD_one]
    simp only [Bool.and_eq_true, decide_eq_true_eq, Bool.not_eq_true', decide_eq_false_iff_not]
    omega
  · rw [ledBit, if_neg hj, BitVec.getLsbD_zero]
    simp only [Bool.false_eq_true, false_iff]
    omega

/-- R183. -/
theorem ledMask_getLsbD_iff (S : List Nat) (i : Nat) : (ledMask S).getLsbD i = true ↔ i ≤ 7 ∧ i ∈ S := by
  induction S with
  | nil => simp [ledMask]
  | cons j S ih => rw [ledMask, BitVec.getLsbD_or, Bool.or_eq_true, ledBit_getLsbD_iff, ih, List.mem_cons, and_or_left]

/-- R183, R186: indices outside 0..7 set no bit. -/
theorem ledMask_eq_zero {S : List Nat} (h : ∀ i ∈ S, 7 < i) : ledMask S = 0x00#8 := by
  refine BitVec.eq_of_getLsbD_eq fun i _ => ?_
  have hclear : ¬(ledMask S).getLsbD i = true := fun hbit =>
    have ⟨hle, hmem⟩ := (ledMask_getLsbD_iff S i).mp hbit
    absurd (h i hmem) (by omega)
  simpa using hclear

theorem segLookup_of_le (T : Config.Tables) {d : Nat} (h : d ≤ 16) :
    segLookup T d = T.seg7[d]'(Nat.lt_succ_of_le h) :=
  dif_pos h

theorem segLookup_of_gt (T : Config.Tables) {d : Nat} (h : ¬d ≤ 16) : segLookup T d = T.seg7[16] :=
  dif_neg h

/-! ## The mode state machine -/

/-- R180: seven press edges return the mode. -/
theorem nextMode_seven_times (m : Mode) :
    nextMode (nextMode (nextMode (nextMode (nextMode (nextMode (nextMode m)))))) = m := by
  revert m
  decide

theorem ofMsg_ne_modeb (m : Msg) : Instr.ofMsg m ≠ .modeb := by
  cases m <;> exact nofun

/-- Log entry 5: while a word waits at the message port, a running block's step is a message's. -/
theorem step_ran_message {s t : State} (hs : NoReset s) (hh : s.halt = false) {w : SinkWord}
    (hw : s.offered = some w) (h : step s = .next t) : ∃ m, exec (.ofMsg m) (s.setOffered none) = .next t := by
  have hf : fetch s = fetchOffered w s := by simp [fetch_noReset hs, fetchRunning, hh, hw]
  rw [step, hf, fetchOffered] at h
  cases hd : decodeSink w with
  | error e => rw [hd] at h; cases h
  | ok i =>
    rw [hd] at h
    obtain ⟨m, rfl⟩ := decodeSink_ofMsg hd
    exact ⟨m, h⟩

end Sys2Proof.Machine

namespace Sys2Proof.Claims

open Sys2Proof.Machine

/-- R130, R180. -/
theorem modeScanned_mode (s : State) : (modeScanned s).mode = if Pressing 8 s then nextMode s.mode else s.mode := by
  by_cases h : Pressing 8 s
  · rw [modeScanned, if_pos h, if_pos h]
    rfl
  · rw [modeScanned, if_neg h, if_neg h]
    rfl

/-- R180: every instruction but `MODEB` leaves `MODE` alone. -/
theorem exec_keeps_mode {i : Instr} {s t : State} (hs : NoReset s) (h : exec i s = .next t) (hi : i ≠ .modeb) :
    t.mode = s.mode :=
  have ⟨hmode, _⟩ := controlRegistersWrittenOnlyBy i s t hs h
  hmode hi

/-- R180: a halted block does nothing, and a word at the message port is no press of the mode button. -/
theorem step_keeps_mode_unless_scanning {s t : State} (hs : NoReset s) (h : step s = .next t) (hrun : ¬Scanning s) :
    t.mode = s.mode := by
  by_cases hh : s.halt = true
  · obtain ⟨-, hstays, -⟩ := haltedUntilReset
    rw [next_unique (hstays s hh hs) h]
  · have hh : s.halt = false := by simpa using hh
    obtain ⟨w, hw⟩ := Option.ne_none_iff_exists'.mp fun hempty => hrun ⟨hh, hempty⟩
    obtain ⟨m, ran⟩ := step_ran_message hs hh hw h
    exact exec_keeps_mode (s := s.setOffered none) hs ran (ofMsg_ne_modeb m)

/-- R110, R180: of the operations of the program only the one at 9 is `MODEB`. -/
theorem scan_mode {s t : State} (hs : NoReset s) (hrun : Scanning s) (h : step s = .next t) :
    t.mode = if s.pc = 9#5 ∧ Pressing 8 s then nextMode s.mode else s.mode := by
  obtain ⟨hh, hempty⟩ := hrun
  cases step_noReset hs h with
  | idle halted same => exact absurd (hh.symm.trans halted) nofun
  | message m running waiting ran => exact absurd hempty waiting
  | scan i running atPc ran =>
    by_cases hi : i = .modeb
    · subst hi
      have hpc : s.pc = 9#5 := (iter_modeb_iff s.pc).mp atPc
      rw [next_unique (exec_modeb_eq hs) ran, modeScanned_mode]
      simp only [hpc, true_and]
    · have hpc : s.pc ≠ 9#5 := fun e => hi (Option.some.inj (atPc.symm.trans ((iter_modeb_iff s.pc).mpr e)))
      rw [if_neg fun ⟨hat, _⟩ => hpc hat, exec_keeps_mode hs ran hi]

/-- Settles O19: the table by evaluation, and the one trigger by whether the block runs the operation at `PC`. -/
theorem modeChangesOnlyOnPress : Obligations.ModeChangesOnlyOnPress := by
  refine ⟨rfl, by decide, fun m => ⟨nextMode_val m, nextMode_seven_times m⟩, fun s t hs h => ?_⟩
  by_cases hrun : Scanning s
  · rw [scan_mode hs hrun h]
    simp only [and_iff_right hrun]
  · rw [if_neg fun ⟨hscanning, _⟩ => hrun hscanning, step_keeps_mode_unless_scanning hs h hrun]

/-- Settles O20: the word and its position by evaluation, the effect by the run of `REFRESH`. -/
theorem refreshRule : Obligations.RefreshRule :=
  ⟨rfl, by decide, fun _ hs => exec_refresh_eq hs⟩

/-- Settles O44: the mask's bits, and the empty mask of the indices above 7, of which the idle index is one. -/
theorem ledMaskBits : Obligations.LedMaskBits :=
  ⟨fun S i hi => (ledMask_getLsbD_iff S i).trans (and_iff_right hi),
    ledMask_eq_zero (by decide), fun _ h => ledMask_eq_zero h⟩

/-- Settles O45: an entry of the table, or the blank one. -/
theorem segmentLookup : Obligations.SegmentLookup := by
  intro T d
  by_cases h : d ≤ 16
  · rw [segLookup_of_le T h, dif_pos h]
  · rw [segLookup_of_gt T h, dif_neg h]

end Sys2Proof.Claims

/-! SUPPORT. What the statements of 45_output_shifter.md rest on besides the frame from a clock that idles low: where a
pin write leaves the pins whatever they held, and which chain it belongs to. -/

namespace Sys2Proof.Machine

open Sys2Proof.Claims Sys2Proof.Safety

/-! ## O46: the pins after a write, whether or not it makes an edge -/

section

variable (c : Fin 3) (v : Bool) (s : State)

@[simp] theorem pinWrite_clk_data : (pinWrite (.clk c v) s).data = s.data := by
  rw [pinWrite]
  split <;> rfl

@[simp] theorem pinWrite_clk_clk : (pinWrite (.clk c v) s).clk = fileSet s.clk c v := by
  rw [pinWrite]
  split <;> rfl

@[simp] theorem pinWrite_clk_latch : (pinWrite (.clk c v) s).latch = s.latch := by
  rw [pinWrite]
  split <;> rfl

@[simp] theorem pinWrite_latch_data : (pinWrite (.latch c v) s).data = s.data := by
  rw [pinWrite]
  split <;> rfl

@[simp] theorem pinWrite_latch_clk : (pinWrite (.latch c v) s).clk = s.clk := by
  rw [pinWrite]
  split <;> rfl

@[simp] theorem pinWrite_latch_latch : (pinWrite (.latch c v) s).latch = fileSet s.latch c v := by
  rw [pinWrite]
  split <;> rfl

@[simp] theorem runPins_bitWrites_data : (runPins (bitWrites c v) s).data = fileSet s.data c v := by
  simp [bitWrites, pinWrite_data]

@[simp] theorem runPins_bitWrites_clk : (runPins (bitWrites c v) s).clk = fileSet s.clk c false := by
  simp [bitWrites, pinWrite_data]

@[simp] theorem runPins_bitWrites_latch : (runPins (bitWrites c v) s).latch = s.latch := by
  simp [bitWrites, pinWrite_data]

end

section

variable (c : Fin 3) (b : Byte) (s : State)

/-- R200: the last of the eight bits stays on the data line. -/
theorem runPins_frameWrites_data : (runPins (frameWrites c b) s).data = fileSet s.data c (b.getLsbD 7) := by
  simp [frameWrites, runPins_append]

theorem runPins_frameWrites_clk : (runPins (frameWrites c b) s).clk = fileSet s.clk c false := by
  simp [frameWrites, runPins_append]

theorem runPins_frameWrites_latch : (runPins (frameWrites c b) s).latch = fileSet s.latch c true := by
  simp [frameWrites, runPins_append]

end

/-! ## O46: the chain a pin write belongs to -/

/-- The chain whose pin is written. -/
def PinWrite.chain : PinWrite → Fin 3
  | .data c _ | .clk c _ | .latch c _ => c

/-- R203: a write on one chain leaves the external registers of the others. -/
theorem pinWrite_ext_of_chain_ne {w : PinWrite} {c : Fin 3} (h : w.chain ≠ c) (s : State) :
    fileGet (pinWrite w s).ext.sr c = fileGet s.ext.sr c ∧
      fileGet (pinWrite w s).ext.qout c = fileGet s.ext.qout c := by
  cases w with
  | data d v => exact ⟨rfl, rfl⟩
  | clk d v =>
    rw [pinWrite]
    split
    · exact ⟨fileGet_fileSet_ne _ _ h, rfl⟩
    · exact ⟨rfl, rfl⟩
  | latch d v =>
    rw [pinWrite]
    split
    · exact ⟨rfl, fileGet_fileSet_ne _ _ h⟩
    · exact ⟨rfl, rfl⟩

theorem runPins_ext_of_chain_ne {ws : List PinWrite} {c : Fin 3} (h : ∀ w ∈ ws, w.chain ≠ c) (s : State) :
    fileGet (runPins ws s).ext.sr c = fileGet s.ext.sr c ∧
      fileGet (runPins ws s).ext.qout c = fileGet s.ext.qout c := by
  induction ws generalizing s with
  | nil => exact ⟨rfl, rfl⟩
  | cons w ws ih =>
    obtain ⟨hsr, hqout⟩ := pinWrite_ext_of_chain_ne (h w List.mem_cons_self) s
    rw [runPins_cons, ← hsr, ← hqout]
    exact ih (fun v hv => h v (List.mem_cons_of_mem w hv)) (pinWrite w s)

/-- R200: a frame writes the pins of its own chain alone. -/
theorem frameWrites_chain (c : Fin 3) (b : Byte) : ∀ w ∈ frameWrites c b, w.chain = c := by
  simp [frameWrites, bitWrites, PinWrite.chain]

/-- R200: a frame whatever the clock held before. -/
theorem framed_eq (c : Fin 3) (b : Byte) (s : State) :
    framed c b s =
      { s with
        data := fileSet s.data c (b.getLsbD 7), clk := fileSet s.clk c false, latch := fileSet s.latch c true,
        ext := (framed c b s).ext, trace := s.trace ++ [.shout c b] } := by
  rw [← runPins_frameWrites_data c b s, ← runPins_frameWrites_clk c b s, ← runPins_frameWrites_latch c b s, framed,
    runPins_eq]

theorem framed_ext (c : Fin 3) (b : Byte) (s : State) : (framed c b s).ext = (runPins (frameWrites c b) s).ext := by
  rw [framed]

theorem framed_ext_of_ne {c c' : Fin 3} (b : Byte) (s : State) (h : c' ≠ c) :
    fileGet (framed c b s).ext.sr c' = fileGet s.ext.sr c' ∧
      fileGet (framed c b s).ext.qout c' = fileGet s.ext.qout c' := by
  rw [framed_ext]
  exact runPins_ext_of_chain_ne (fun w hw => frameWrites_chain c b w hw ▸ h.symm) s

/-- R200: with no reset pulse coming `SHOUT` ends as the whole frame. -/
theorem shout_eq_framed {s : State} (hs : NoReset s) (c : Fin 3) (b : Byte) :
    shout c b s = .ok () (framed c b s) := by
  rw [shout_apply hs, State.log, runPins_trace, framed]

/-! ## O47: the stages after a frame -/

theorem frameStages_getLsbD (b : Byte) (i : Fin 8) : (frameStages b).getLsbD i.val = b.getLsbD (7 - i.val) := by
  rw [BitVec.getLsbD_reverse, BitVec.getMsbD_eq_getLsbD, decide_eq_true i.isLt, Bool.true_and]

end Sys2Proof.Machine

namespace Sys2Proof.Claims

open Sys2Proof.Machine

/-- Settles O46: the writes and their number by evaluation, their effect by where each pin ends, and the other chains by
the frame's writes being on its own. -/
theorem frameAtThePins : Obligations.FrameAtThePins := by
  refine fun c b s => ⟨rfl, rfl, fun hs => shout_eq_framed hs c b, framed_eq c b s, ?_⟩
  exact fun c' hc => framed_ext_of_ne b s hc

/-- Settles O47: from a low clock all eight bits are shifted in and then latched. -/
theorem frameFillsTheRegister : Obligations.FrameFillsTheRegister := by
  intro c b s hclk i
  rw [framed_of_clk_low b hclk]
  simp only [fileGet_fileSet_same, frameStages_getLsbD, and_self]

end Sys2Proof.Claims

/-! SUPPORT. What the statements of 46_sink.md rest on: a step that finds a word at the message port, a send as a whole
operation, and how many messages each instruction, and then an iteration, can send. -/

namespace Sys2Proof.Machine

open Sys2Proof.Claims

/-- Log entry 5: a word at the message port that spells an instruction is what the step runs. -/
theorem step_eq_exec_offered {s : State} (hs : NoReset s) (hh : s.halt = false) {w : SinkWord} {i : Instr}
    (hw : s.offered = some w) (hi : decodeSink w = .ok i) : step s = exec i (s.setOffered none) := by
  have hf : fetch s = .run i (s.setOffered none) := by
    simp [fetch_noReset hs, fetchRunning, hh, hw, fetchOffered, hi]
  rw [step, hf]

end Sys2Proof.Machine

namespace Sys2Proof.Claims

open Sys2Proof.Machine Sys2Proof.Safety

/-- Settles O7: the step fetches the word at the port and takes it away. -/
theorem stepRunsTheOfferedMessage : Obligations.StepRunsTheOfferedMessage :=
  fun _ _ _ hs hh hw hi => step_eq_exec_offered hs hh hw hi

/-! ## O28, O29: one `EMIT` -/

/-- R215: a send with nothing after it. -/
theorem runOp_send_eq {s : State} (hs : NoReset s) (m : Msg) : runOp (send m) s = .next (sending m s id) :=
  (exec_ofMsg m s).symm.trans (exec_ofMsg_eq hs m)

/-- Settles O28: the run of `EMIT`, and of a send by the answer it reads. -/
theorem emitRule : Obligations.EmitRule := by
  refine fun m s hs => ⟨emit_apply hs m, ?_⟩
  rw [runOp_send_eq hs, sending]
  by_cases hf : s.failNow = true
  · rw [if_pos hf, if_pos hf, hf]
  · have hok : s.failNow = false := by simpa using hf
    rw [if_neg hf, if_neg hf, hok]
    rfl

/-- Settles O29: each message row runs one send. -/
theorem messageRule : Obligations.MessageRule := fun a b _ hs =>
  ⟨exec_ofMsg_eq hs (.noteOn a b), exec_ofMsg_eq hs (.noteOff a b), exec_ofMsg_eq hs (.cc a b)⟩

/-! ## O16: how many messages an operation sends -/

/-- From `s` to `t` events were only added, and none of them is a message. -/
abbrev Quiet (s t : State) : Prop := Emits (fun _ => False) s t

/-- From `s` to `t` events were only added, at most n of them messages. -/
def SendsAtMost (n : Nat) (s t : State) : Prop :=
  ∃ events, t.trace = s.trace ++ events ∧ (messages events).length ≤ n

namespace SendsAtMost

variable {n k : Nat} {s t u : State}

theorem quiet (h : Quiet s t) : SendsAtMost n s t := by
  obtain ⟨events, ht, hnone⟩ := h
  have hm : messages events = [] := List.eq_nil_iff_forall_not_mem.mpr hnone
  exact ⟨events, ht, by simp [hm]⟩

theorem mono (h : SendsAtMost n s t) (hle : n ≤ k) : SendsAtMost k s t :=
  let ⟨events, ht, hn⟩ := h
  ⟨events, ht, hn.trans hle⟩

theorem trans (h₁ : SendsAtMost n s t) (h₂ : SendsAtMost k t u) : SendsAtMost (n + k) s u := by
  obtain ⟨es₁, ht, hn⟩ := h₁
  obtain ⟨es₂, hu, hk⟩ := h₂
  refine ⟨es₁ ++ es₂, by rw [hu, ht, List.append_assoc], ?_⟩
  rw [messages_append, List.length_append]
  exact Nat.add_le_add hn hk

theorem after_quiet (h₁ : Quiet s t) (h₂ : SendsAtMost n t u) : SendsAtMost n s u :=
  (trans (quiet (n := 0) h₁) h₂).mono (Nat.zero_add n).le

/-- A send is one message, failed or not; what follows it may send more. -/
theorem sending {m : Msg} {after : State → State} (h : ∀ t, SendsAtMost n t (after t)) :
    SendsAtMost (n + 1) s (sending m s after) := by
  have hone : ∀ (failed : Bool) (u : State), u.trace = s.trace ++ [.emit m failed] → SendsAtMost 1 s u :=
    fun failed u hu => ⟨[.emit m failed], hu, le_rfl⟩
  rw [Claims.sending]
  split
  · exact (hone true _ rfl).mono (Nat.le_add_left 1 n)
  · exact ((hone false _ rfl).trans (h _)).mono (Nat.add_comm 1 n).le

/-- R149 to R151. -/
theorem reported {c : Fin 9} {ctrl q : Q} : SendsAtMost 1 s (reported c ctrl q s) := by
  rw [Claims.reported]
  split
  · exact quiet (.silent rfl)
  · exact sending fun t => quiet (.silent rfl)

/-- R166: an instance sends one message or none. -/
theorem deltaScanned {j : Fin 2} {p : Fin 11} {ctrl : Q} {raw : Raw} {after : State → State}
    (h : ∀ t, SendsAtMost n t (after t)) : SendsAtMost (n + 1) s (deltaScanned j p ctrl raw s after) := by
  have hunsent : ∀ {u : State}, Quiet s u → SendsAtMost (n + 1) s (after u) := fun hq =>
    (after_quiet hq (h _)).mono (Nat.le_succ n)
  rw [Claims.deltaScanned]
  by_cases hl : s.levelNow = low
  · rw [if_pos hl]
    generalize (if fileGet s.gwp j = false then some raw else fileGet s.ref j) = captured
    have hread : Quiet s { lineRead p s with ref := fileSet s.ref j captured } := (Emits.lineRead p).trans (.silent rfl)
    cases captured with
    | none => exact hunsent (hread.trans (.silent rfl))
    | some r =>
      dsimp only
      split
      · exact hunsent (hread.trans (.silent rfl))
      · exact after_quiet hread (sending fun t => after_quiet (.silent rfl) (h _))
  · rw [if_neg hl]
    exact hunsent ((Emits.lineRead p).trans (.silent rfl))

/-- R150: the two delta instances in mode 1, one report in the others. -/
theorem mux0Scanned (T : Config.Tables) : SendsAtMost (if s.mode = 1 then 2 else 1) s (mux0Scanned T s) := by
  rw [Claims.mux0Scanned]
  by_cases hm : s.mode = 1
  · rw [if_pos hm, if_pos hm]
    exact after_quiet (.acquired 0) (deltaScanned fun t => deltaScanned fun u => quiet (.silent rfl))
  · rw [if_neg hm, if_neg hm]
    exact after_quiet (.acquired 0) reported

/-- R126: a key sends at its edge only. -/
theorem keyScanned (T : Config.Tables) (k : Fin 8) : SendsAtMost 1 s (keyScanned T k s) := by
  have hunsent : SendsAtMost 1 s (nextPosition (polled (keyPin k) s)) := quiet (Emits.polled _).next
  have hlight : ∀ (c : Prop) [Decidable c] (mask : Byte) (t : State),
      SendsAtMost 0 t (nextPosition (if c then lit mask t else t)) := by
    intro c _ mask t
    split
    · exact quiet (Emits.lit mask).next
    · exact quiet (.silent rfl)
  rw [Claims.keyScanned]
  by_cases hg : s.mode = 1 ∧ (k = 0 ∨ k = 3)
  · rw [if_pos hg]
    exact hunsent
  rw [if_neg hg]
  split
  · exact after_quiet (.polled _) (sending (hlight _ _))
  split
  · exact after_quiet (.polled _) (sending (hlight _ _))
  · exact hunsent

/-- R131, R132: the encoder buttons send in mode 2 only. -/
theorem encScanned (p : Fin 11) (val : Q) :
    SendsAtMost (if s.mode = 2 then 1 else 0) s (encScanned p val s) := by
  by_cases hm : s.mode = 2
  · rw [Claims.encScanned, if_pos hm, if_pos hm]
    split
    · exact after_quiet (.polled p) (sending fun t => quiet (.silent rfl))
    · exact quiet (Emits.polled p).next
  · exact quiet (.encScanned fun h => hm h)

end SendsAtMost

/-- The most messages that an instruction can send in mode m. -/
def mostMessages (m : Mode) : Instr → Nat
  | .refresh | .modeb | .sleep => 0
  | .mux0 => if m = 1 then 2 else 1
  | .encl | .encr => if m = 2 then 1 else 0
  | .key0 | .key1 | .key2 | .key3 | .key4 | .key5 | .key6 | .key7 | .mux1 | .mux2 | .mux3 | .mux4 | .mux5 | .mux6
  | .dir0 | .dir1 | .noteOn _ _ | .noteOff _ _ | .cc _ _ => 1

theorem mostMessages_key (m : Mode) (k : Fin 8) : mostMessages m (.key k) = 1 := by
  fin_cases k <;> rfl

theorem mostMessages_mux (m : Mode) {i : Fin 7} (h : i ≠ 0) : mostMessages m (.mux i) = 1 := by
  revert h
  fin_cases i <;> simp [Instr.mux, mostMessages]

theorem mostMessages_dir (m : Mode) (j : Fin 2) : mostMessages m (.dir j) = 1 := by
  fin_cases j <;> rfl

theorem mostMessages_enc (m : Mode) (e : Fin 2) : mostMessages m (.enc e) = if m = 2 then 1 else 0 := by
  fin_cases e <;> rfl

theorem mostMessages_ofMsg (m : Mode) (msg : Msg) : mostMessages m (.ofMsg msg) = 1 := by
  cases msg <;> rfl

theorem exec_sendsAtMost {i : Instr} {s t : State} (hs : NoReset s) (h : exec i s = .next t) :
    SendsAtMost (mostMessages s.mode i) s t := by
  obtain rfl | ⟨k, rfl⟩ | rfl | ⟨i, rfl⟩ | ⟨j, rfl⟩ | ⟨e, rfl⟩ | rfl | ⟨m, rfl⟩ := instr_kinds i
  · rw [next_unique (exec_refresh_eq hs) h]
    exact .quiet (.refreshed _)
  · rw [next_unique (exec_key_eq hs k) h, mostMessages_key]
    exact .keyScanned _ k
  · rw [next_unique (exec_modeb_eq hs) h]
    exact .quiet .modeScanned
  · by_cases h0 : i = 0
    · subst h0
      rw [next_unique (exec_mux0_eq hs) h]
      exact .mux0Scanned _
    · rw [next_unique (exec_mux_eq hs h0) h, mostMessages_mux _ h0]
      exact .after_quiet (.acquired i) .reported
  · rw [next_unique (exec_dir_eq hs j) h, mostMessages_dir]
    exact .after_quiet (.quiet [.sample _ _] rfl rfl) .reported
  · rw [next_unique (exec_enc_eq hs e) h, mostMessages_enc]
    exact .encScanned _ _
  · rw [next_unique (exec_sleep_eq hs) h]
    exact .quiet (.quiet [.delay .loop] rfl rfl)
  · rw [next_unique (exec_ofMsg_eq hs m) h, mostMessages_ofMsg]
    exact .sending fun t => .quiet (.silent rfl)

/-! ## O16: how many messages an iteration sends -/

/-- R110: what comes before `MODEB` in the program, and `MODEB` itself, sends as much in every mode. -/
theorem mostMessages_up_to_modeb :
    ∀ pc < 22, .modeb ∈ iter.drop pc → ∀ i ∈ iter[pc]?, ∀ m m', mostMessages m i = mostMessages m' i := by
  decide

/-- The mode after `MODEB` bounds what the whole iteration sends: in mode 1 eighteen, in mode 2 nineteen. -/
theorem iter_mostMessages_le (m : Mode) : (iter.map (mostMessages m)).sum ≤ 19 := by
  revert m
  decide

/-- A list with which l goes on from position n has the entry there first, and goes on behind it. -/
theorem cons_prefix_drop {α : Type} {l is : List α} {i : α} {n : Nat} (h : i :: is <+: l.drop n) :
    l[n]? = some i ∧ is <+: l.drop (n + 1) := by
  obtain ⟨rest, h⟩ := h
  refine ⟨?_, rest, ?_⟩
  · rw [← List.head?_drop, ← h]
    rfl
  · rw [← List.tail_drop, ← h]
    rfl

/-- R110: a running block's step runs the operation of `ITER` at `PC`. -/
theorem exec_of_step {i : Instr} {s t : State} (hs : NoReset s) (hrun : Scanning s) (hat : iter[s.pc.toNat]? = some i)
    (h : step s = .next t) : exec i s = .next t := by
  obtain ⟨hh, hempty⟩ := hrun
  cases step_noReset hs h with
  | idle halted same => exact absurd (hh.symm.trans halted) nofun
  | message m running waiting ran => exact absurd hempty waiting
  | scan j running atPc ran => exact Option.some.inj (atPc.symm.trans hat) ▸ ran

/-- R112, R113: what is left of the program is in front of the next position; after `SLEEP` nothing is left. -/
theorem prefix_at_next_position {is : List Instr} {pc : BitVec 5} (hlt : pc.toNat < 22)
    (h : is <+: iter.drop (pc.toNat + 1)) : is <+: iter.drop (if pc = 21#5 then 0#5 else pc + 1#5).toNat := by
  by_cases hlast : pc = 21#5
  · rw [hlast] at h
    exact List.prefix_nil.mp h ▸ List.nil_prefix
  · rw [if_neg hlast, show (pc + 1#5).toNat = pc.toNat + 1 by bv_omega]
    exact h

/-- A run through the next operations of the program sends at most what they can in some one mode, which is the present
one unless `MODEB` is among them. -/
theorem run_sendsAtMost {is : List Instr} {s t : State} (hs : NoReset s) (hrun : Scanning s)
    (hnext : is <+: iter.drop s.pc.toNat) (h : After is.length s t) :
    ∃ m, (.modeb ∉ is → m = s.mode) ∧ SendsAtMost (is.map (mostMessages m)).sum s t := by
  induction is generalizing s with
  | nil => exact ⟨s.mode, fun _ => rfl, .quiet (.silent (by rw [next_unique (rfl : After 0 s s) h]))⟩
  | cons i is ih =>
    obtain ⟨hat, hrest⟩ := cons_prefix_drop hnext
    have hlt : s.pc.toNat < 22 := (List.getElem?_eq_some_iff.mp hat).1
    obtain ⟨u, hstep, hafter⟩ := after_succ_iff.mp h
    have hran : exec i s = .next u := exec_of_step hs hrun hat hstep
    have hone : SendsAtMost (mostMessages s.mode i) s u := exec_sendsAtMost hs hran
    obtain ⟨v, hv, hu, hend⟩ := step_halts_or_moves hs hrun (Nat.le_of_lt_succ hlt)
    obtain rfl := next_unique hv hstep
    obtain hhalt | ⟨hrun', hmove⟩ := hend
    · rw [next_unique (after_halted hu hhalt _) hafter]
      exact ⟨s.mode, fun _ => rfl, hone.mono (Nat.le_add_right ..)⟩
    obtain ⟨m, hm, hmore⟩ := ih hu hrun' (hmove ▸ prefix_at_next_position hlt hrest) hafter
    have hmode : .modeb ∉ i :: is → m = s.mode := fun hnot =>
      (hm (List.not_mem_of_not_mem_cons hnot)).trans (exec_keeps_mode hs hran (List.ne_of_not_mem_cons hnot).symm)
    have hbound : mostMessages s.mode i = mostMessages m i := by
      by_cases hmem : .modeb ∈ i :: is
      · exact mostMessages_up_to_modeb _ hlt (hnext.subset hmem) i hat _ _
      · rw [hmode hmem]
    refine ⟨m, hmode, ?_⟩
    rw [List.map_cons, List.sum_cons, ← hbound]
    exact hone.trans hmore

/-- Settles O16: the bounds of the operations of `ITER` add up to 19 at most. -/
theorem atMostNineteenMessages : Obligations.AtMostNineteenMessages := by
  intro s t hs hrun hpc h
  obtain ⟨m, -, hsends⟩ := run_sendsAtMost (is := iter) hs hrun (by rw [hpc]; exact List.prefix_rfl) h
  exact hsends.mono (iter_mostMessages_le m)

end Sys2Proof.Claims

/-! SUPPORT. What the statements of 60_exceptions.md rest on: the state in which a failed send halts, and the key and the
channel operations that come to one. -/

namespace Sys2Proof.Claims

open Sys2Proof.Machine Sys2Proof.Safety

@[simp] theorem frames_append (es fs : List Event) : frames (es ++ fs) = frames es ++ frames fs := by
  induction es with
  | nil => rfl
  | cons e es ih => cases e <;> simp [frames, ih]

/-- R234: the halt a failed send of `m` leaves, the word presented and the failure answered before it. -/
def sendFailed (m : Msg) (s : State) : State :=
  ((s.present (encodeMsg m)).tookFail.log (.emit m true)).setHalt true

/-- R234: nothing of what follows a failed send runs. -/
theorem sending_of_fail {s : State} (hf : s.failNow = true) (m : Msg) (after : State → State) :
    sending m s after = sendFailed m s :=
  if_pos hf

/-- R126, R234: an unguarded press whose `NoteOn` fails ends in the halt after the poll. -/
theorem keyScanned_of_failed_press (T : Config.Tables) {k : Fin 8} {s : State}
    (hg : ¬(s.mode = 1 ∧ (k = 0 ∨ k = 3))) (hp : Pressing (keyPin k) s) (hf : s.failNow = true) :
    keyScanned T k s =
      sendFailed (.noteOn (BitVec.ofNat 7 (12 * s.mode.val + k.val)) 127#7) (polled (keyPin k) s) := by
  rw [keyScanned, if_neg hg, if_pos hp]
  exact sending_of_fail (s := polled (keyPin k) s) hf _ _

/-- R149 to R151, R234: a changed value whose `CC` fails ends in the halt before `LAST` is written. -/
theorem reported_of_fail {c : Fin 9} {q : Q} {s : State} (hl : fileGet s.last c ≠ some q) (hf : s.failNow = true)
    (ctrl : Q) : reported c ctrl q s = sendFailed (.cc ctrl q) s := by
  rw [reported, if_neg hl, sending_of_fail hf]

/-- Settles O33: the press ends in the halt after the poll, which wrote the low sample and added two events, no frame. -/
theorem failedNoteOnHalts : Obligations.FailedNoteOnHalts := by
  intro k s hs hg hp hf
  have hexec := (exec_key_eq hs k).trans (congrArg _ (keyScanned_of_failed_press _ hg hp hf))
  have hprev : fileGet (polled (keyPin k) s).prev (keyPin k) = low := (fileGet_fileSet_same ..).trans hp.2
  refine ⟨_, hexec, rfl, rfl, hprev, rfl, rfl, rfl, rfl, rfl, ?_, rfl, rfl⟩
  simp [sendFailed, polled, lineRead, frames]

/-- Settles O34: the report ends in the halt after `ACQUIRE`, which wrote `SEL` and not `LAST`. -/
theorem failedChannelSendHalts : Obligations.FailedChannelSendHalts := by
  intro i s hi hs hl hf
  have hreport := reported_of_fail (s := acquired i s) hl hf (BitVec.ofNat 7 (i.val + 1))
  have hsel : (acquired i s).sel.toNat = i.val := Nat.mod_eq_of_lt (Nat.lt_trans i.isLt (by decide))
  exact ⟨_, (exec_mux_eq hs hi).trans (congrArg _ hreport), rfl, rfl, rfl, hsel⟩

end Sys2Proof.Claims

/-! SUPPORT. What the statements of 70_reset_and_hazards.md rest on: what a pulse of `RST` makes of a step and of an
instruction, the first step from the reset registers, and which delays an instruction, and then an iteration, makes. -/

namespace Sys2Proof.Machine

open Sys2Proof.Claims Sys2Proof.Safety

/-! ## O12: the pulse at the start of a step -/

/-- R260: a pulse that is due takes the step. -/
theorem fetch_of_pulse_due {s : State} {later : List Nat} (h : s.env.resets = 0 :: later) :
    fetch s = .reset (s.setResets later) := by
  rw [fetch, checkReset, h]

/-- Log entry 4: a later pulse is one moment nearer. -/
theorem fetch_of_pulse_coming {s : State} {n : Nat} {later : List Nat} (h : s.env.resets = (n + 1) :: later) :
    fetch s = fetchRunning (s.setResets (n :: later)) := by
  rw [fetch, checkReset, h]

theorem fetchRunning_of_scanning {s : State} (hrun : Scanning s) {w : Byte} {i : Instr}
    (hw : scanWordAt s.pc = some w) (hi : decodeScan w = .ok i) : fetchRunning s = .run i s := by
  obtain ⟨hhalt, hempty⟩ := hrun
  simp [fetchRunning, hhalt, hempty, fetchScan, hw, hi]

/-- R263: with the registers at their reset values the block runs `REFRESH`, the program's first operation. -/
theorem step_of_reset_registers {s : State} (h : SameRegisters s State.reset) (hempty : s.offered = none)
    (hs : NoReset s) : step s = exec .refresh s := by
  obtain ⟨hpc, hhalt, -⟩ := h
  exact step_eq_exec hs ⟨hhalt, hempty⟩ (w := 0x00#8) (by rw [hpc]; decide) (by decide)

/-! ## O12: the pulse inside an instruction -/

/-- Pulses past an operation's end stay, however it ended. -/
theorem ended_endWithResets (rs : List Nat) (r : EStateM.Result Stop State Unit) :
    Op.ended (endWithResets rs r) = (Op.ended r).setResets rs := by
  cases r with
  | ok a t => rfl
  | error w t =>
    cases w with
    | exc e => cases e; rfl
    | rst => rfl

/-- R260: the state in which a pulse abandons an operation. -/
def Abandoned (s : State) (events : List Event) (later : List Nat) (t : State) : Prop :=
  SameRegisters t State.reset ∧ t.trace = s.trace ++ events ∧ t.offered = none ∧ t.env.resets = later

namespace Op.TimedAt

variable {op : Op Unit} {s : State} {events : List Event} (h : op.TimedAt s events) {n : Nat} (later : List Nat)
include h

theorem runOp_of_pulse_inside (hn : n < moments events) :
    ∃ t, runOp op (s.setResets (n :: later)) = .next t ∧ Abandoned s (eventsBefore n events) later t := by
  obtain ⟨-, hpulse⟩ := h
  obtain ⟨t, hstop, htrace, hlater⟩ := (hpulse n later).2 hn
  exact ⟨t.afterReset, runOp_rst hstop, sameRegisters_refl State.reset, htrace, rfl, hlater⟩

theorem runOp_of_pulse_past (hn : moments events ≤ n) :
    runOp op (s.setResets (n :: later)) = .next ((Op.ended (op s)).setResets ((n - moments events) :: later)) := by
  obtain ⟨-, hpulse⟩ := h
  rw [runOp, (hpulse n later).1 hn, ended_endWithResets]

end Op.TimedAt

/-- R260: what an instruction does when no pulse comes fixes what it does with one at each moment. -/
theorem exec_of_pulse (i : Instr) {s : State} {n : Nat} {later : List Nat} (hr : s.env.resets = n :: later) :
    ∃ u events, exec i (s.setResets []) = .next u ∧ u.trace = s.trace ++ events ∧
      (n < moments events → ∃ t, exec i s = .next t ∧ Abandoned s (eventsBefore n events) later t) ∧
      (moments events ≤ n → exec i s = .next (u.setResets ((n - moments events) :: later))) := by
  obtain ⟨op, hop, he⟩ := exec_timed i
  obtain ⟨events, htimed⟩ := hop (s.setResets []) rfl
  have hs : (s.setResets []).setResets (n :: later) = s := by rw [← hr]; rfl
  have hinside := htimed.runOp_of_pulse_inside (n := n) later
  have hpast := htimed.runOp_of_pulse_past (n := n) later
  rw [hs, ← he] at hinside hpast
  exact ⟨_, events, he _, htimed.ended_trace, hinside, hpast⟩

end Sys2Proof.Machine

namespace Sys2Proof.Claims

open Sys2Proof.Machine Sys2Proof.Safety

/-- Settles O12: a step by what it fetches, an instruction by the law of what a pulse makes of its operation. -/
theorem resetRestoresEveryRegister : Obligations.ResetRestoresEveryRegister := by
  refine ⟨fun s later hr => ?_, fun i s n later hr => ?_, fun s w i n later hr hrun hw hi => ?_,
    fun t h hempty hs => step_of_reset_registers h hempty hs⟩
  · refine ⟨(s.setResets later).afterReset, ?_, sameRegisters_refl State.reset, rfl, rfl, rfl⟩
    rw [step, fetch_of_pulse_due hr]
  · obtain ⟨u, events, hu, htrace, hinside, hpast⟩ := exec_of_pulse i hr
    refine ⟨u, events, hu, htrace, ?_⟩
    split
    · next hn => exact hinside hn
    · next hn => exact hpast (Nat.le_of_not_lt hn)
  · rw [step, fetch_of_pulse_coming hr, fetchRunning_of_scanning (s := s.setResets (n :: later)) hrun hw hi]
    rfl

/-- Settles O11: the files entry by entry, the other registers by evaluation. -/
theorem resetRegisterValues : Obligations.ResetRegisterValues :=
  ⟨rfl, rfl, rfl, rfl, fileGet_replicate _, fileGet_replicate _,
    fun j => ⟨fileGet_replicate _ j, fileGet_replicate _ j, fileGet_replicate _ j⟩, rfl, rfl, rfl, rfl,
    fun c => ⟨fileGet_replicate _ c, fileGet_replicate _ c, fileGet_replicate _ c⟩⟩

/-- A frame moves neither `SHOWN` nor `PC` nor `HALT`. -/
theorem ShiftsOnly.shown_pc_halt {s t : State} (h : ShiftsOnly s t) :
    t.shown = s.shown ∧ t.pc = s.pc ∧ t.halt = s.halt := by
  rw [h]
  exact ⟨rfl, rfl, rfl⟩

/-- Settles O38: the step is `REFRESH`'s, which redraws because no mode is shown. -/
theorem firstStepShowsModeZero : Obligations.FirstStepShowsModeZero := by
  have hstep : step State.reset = .next (refreshed Config.tables State.reset) :=
    (step_of_reset_registers (sameRegisters_refl State.reset) rfl rfl).trans (exec_refresh_eq rfl)
  obtain ⟨l, r, hframe⟩ := refreshed_frame Config.tables State.reset
  obtain ⟨hshown, hpc, hhalt⟩ := hframe.shown_pc_halt
  refine ⟨rfl, _, hstep, hshown, hpc, hhalt, ?_⟩
  rw [refreshed_of_stale Config.tables (s := State.reset) nofun]
  rfl

/-! ## O17: which delays an operation makes -/

/-- The delay an event is, if it is one. -/
def waitOf : Event → Option Wait
  | .delay w => some w
  | .rdpin _ _ | .sample _ _ | .setsel _ | .shout _ _ | .emit _ _ => none

/-- The delays of a stretch of trace, oldest first. -/
def waits (events : List Event) : List Wait := events.filterMap waitOf

@[simp] theorem waits_append (es fs : List Event) : waits (es ++ fs) = waits es ++ waits fs :=
  List.filterMap_append

theorem count_delay (w : Wait) (events : List Event) : events.count (.delay w) = (waits events).count w := by
  induction events with
  | nil => rfl
  | cons e es ih =>
    cases e with
    | delay v => simpa [waits, waitOf, List.count_cons] using ih
    | rdpin | sample | setsel | shout | emit => exact (List.count_cons_of_ne (by simp)).trans ih

theorem delayMs_eq_sum (events : List Event) : delayMs events = ((waits events).map waitMs).sum := by
  induction events with
  | nil => rfl
  | cons e es ih =>
    cases e with
    | delay v => exact congrArg (waitMs v + ·) ih
    | rdpin | sample | setsel | shout | emit => exact ih

/-- From `s` to `t` events were added whose delays are `ws`. -/
def Waited (ws : List Wait) (s t : State) : Prop := waits t.trace = waits s.trace ++ ws

namespace Waited

variable {ws : List Wait} {s t u : State}

theorem trans {vs : List Wait} (h₁ : Waited ws s t) (h₂ : Waited vs t u) : Waited (ws ++ vs) s u := by
  rw [Waited, h₂, h₁, List.append_assoc]

theorem silent (ht : t.trace = s.trace) : Waited [] s t := by
  rw [Waited, ht, List.append_nil]

theorem event {e : Event} (he : waitOf e = none) (ht : t.trace = s.trace ++ [e]) : Waited [] s t := by
  have hnone : waits [e] = [] := List.filterMap_cons_none he
  rw [Waited, ht, waits_append, hnone]

theorem next (h : Waited ws s t) : Waited ws s (nextPosition t) := h

theorem framed (c : Fin 3) (b : Byte) (ht : t.trace = s.trace) : Waited [] s (framed c b t) :=
  event (e := .shout c b) rfl (by rw [← ht]; rfl)

theorem lit (mask : Byte) : Waited [] s (lit mask s) := framed 2 mask rfl

theorem polled (p : Fin 11) : Waited [] s (polled p s) := event (e := .rdpin p s.levelNow) rfl rfl

/-- R148: the selector, the settle delay and the sample. -/
theorem acquired (i : Fin 7) : Waited [.settle] s (acquired i s) := waits_append _ _

/-- A send, failed or not, and what follows it. -/
theorem sending {m : Msg} {after : State → State} (h : ∀ t, Waited [] t (after t)) :
    Waited [] s (sending m s after) := by
  rw [Claims.sending]
  split
  · exact event (e := .emit m true) rfl rfl
  · exact (event (e := .emit m false) rfl rfl).trans (h _)

theorem reported (c : Fin 9) (ctrl q : Q) : Waited [] s (reported c ctrl q s) := by
  rw [Claims.reported]
  split
  · exact silent rfl
  · exact sending fun t => silent rfl

theorem deltaScanned {j : Fin 2} {p : Fin 11} {ctrl : Q} {raw : Raw} {after : State → State}
    (h : ∀ t, Waited [] t (after t)) : Waited [] s (deltaScanned j p ctrl raw s after) := by
  have hafter : ∀ {t u : State}, u.trace = t.trace → Waited [] t (after u) := fun hu => (silent hu).trans (h _)
  have hread : ∀ {u : State}, u.trace = (lineRead p s).trace → Waited [] s u := fun hu =>
    event (e := .rdpin p s.levelNow) rfl hu
  rw [Claims.deltaScanned]
  by_cases hl : s.levelNow = low
  · rw [if_pos hl]
    generalize (if fileGet s.gwp j = false then some raw else fileGet s.ref j) = captured
    cases captured with
    | none => exact (hread rfl).trans (hafter rfl)
    | some r =>
      dsimp only
      split
      · exact (hread rfl).trans (hafter rfl)
      · exact (hread rfl).trans (sending fun t => hafter rfl)
  · rw [if_neg hl]
    exact (hread rfl).trans (hafter rfl)

/-- R150: the delay is that of `ACQUIRE`, in mode 1 too. -/
theorem mux0Scanned (T : Config.Tables) : Waited [.settle] s (mux0Scanned T s) := by
  rw [Claims.mux0Scanned]
  split
  · exact (acquired 0).trans (deltaScanned fun t => deltaScanned fun u => silent rfl)
  · exact (acquired 0).trans (reported ..)

theorem keyScanned (T : Config.Tables) (k : Fin 8) : Waited [] s (keyScanned T k s) := by
  have hlight : ∀ (c : Prop) [Decidable c] (mask : Byte) (t : State),
      Waited [] t (nextPosition (if c then Claims.lit mask t else t)) := by
    intro c _ mask t
    split
    · exact (lit mask).next
    · exact silent rfl
  rw [Claims.keyScanned]
  split
  · exact (polled _).next
  split
  · exact (polled _).trans (sending (hlight _ _))
  split
  · exact (polled _).trans (sending (hlight _ _))
  · exact (polled _).next

theorem modeScanned : Waited [] s (modeScanned s) := by
  rw [Claims.modeScanned]
  split
  · exact (polled 8).trans (silent rfl)
  · exact (polled 8).next

theorem encScanned (p : Fin 11) (val : Q) : Waited [] s (encScanned p val s) := by
  rw [Claims.encScanned]
  split
  · split
    · exact (polled p).trans (sending fun t => silent rfl)
    · exact (polled p).next
  · exact silent rfl

theorem redrawn (T : Config.Tables) (l r : Fin 17) (mask : Byte) : Waited [] s (redrawn T l r mask s) := by
  have hleft : Waited [] s (Claims.framed 0 (segLookup T l.val) { s with digL := l, digR := r }) := framed 0 _ rfl
  exact (hleft.trans (framed 1 _ rfl)).trans (lit mask)

theorem refreshed (T : Config.Tables) : Waited [] s (refreshed T s) := by
  by_cases h : s.shown = some s.mode
  · rw [Claims.refreshed, if_pos h]
    exact silent rfl
  · have hshown : ∀ u, Waited [] u (nextPosition { u with shown := some s.mode }) := fun u => silent rfl
    rw [refreshed_of_stale T h]
    exact (redrawn ..).trans (hshown _)

end Waited

/-- The delays an instruction makes, whether or not a send of it fails. -/
def waitsOf : Instr → List Wait
  | .mux0 | .mux1 | .mux2 | .mux3 | .mux4 | .mux5 | .mux6 => [.settle]
  | .sleep => [.loop]
  | .refresh | .key0 | .key1 | .key2 | .key3 | .key4 | .key5 | .key6 | .key7 | .modeb | .dir0 | .dir1 | .encl | .encr
  | .noteOn _ _ | .noteOff _ _ | .cc _ _ => []

theorem waitsOf_key (k : Fin 8) : waitsOf (.key k) = [] := by
  fin_cases k <;> rfl

theorem waitsOf_mux (i : Fin 7) : waitsOf (.mux i) = [.settle] := by
  fin_cases i <;> rfl

theorem waitsOf_dir (j : Fin 2) : waitsOf (.dir j) = [] := by
  fin_cases j <;> rfl

theorem waitsOf_enc (e : Fin 2) : waitsOf (.enc e) = [] := by
  fin_cases e <;> rfl

theorem waitsOf_ofMsg (m : Msg) : waitsOf (.ofMsg m) = [] := by
  cases m <;> rfl

theorem exec_waited {i : Instr} {s t : State} (hs : NoReset s) (h : exec i s = .next t) :
    Waited (waitsOf i) s t := by
  obtain rfl | ⟨k, rfl⟩ | rfl | ⟨i, rfl⟩ | ⟨j, rfl⟩ | ⟨e, rfl⟩ | rfl | ⟨m, rfl⟩ := instr_kinds i
  · rw [next_unique (exec_refresh_eq hs) h]
    exact .refreshed _
  · rw [next_unique (exec_key_eq hs k) h, waitsOf_key]
    exact .keyScanned _ k
  · rw [next_unique (exec_modeb_eq hs) h]
    exact .modeScanned
  · rw [waitsOf_mux]
    by_cases h0 : i = 0
    · subst h0
      rw [next_unique (exec_mux0_eq hs) h]
      exact .mux0Scanned _
    · rw [next_unique (exec_mux_eq hs h0) h]
      exact (Waited.acquired i).trans (.reported ..)
  · rw [next_unique (exec_dir_eq hs j) h, waitsOf_dir]
    exact Waited.trans (.event (e := .sample _ _) rfl rfl) (.reported ..)
  · rw [next_unique (exec_enc_eq hs e) h, waitsOf_enc]
    exact .encScanned _ _
  · rw [next_unique (exec_sleep_eq hs) h]
    exact waits_append _ _
  · rw [next_unique (exec_ofMsg_eq hs m) h, waitsOf_ofMsg]
    exact .sending fun t => .silent rfl

/-! ## O17: which delays an iteration makes -/

/-- A run through the next operations of the program that does not halt makes the delays of each. -/
theorem run_waited {is : List Instr} {s t : State} (hs : NoReset s) (hrun : Scanning s)
    (hnext : is <+: iter.drop s.pc.toNat) (h : After is.length s t) (hhalt : t.halt = false) :
    Waited (is.flatMap waitsOf) s t := by
  induction is generalizing s with
  | nil => exact .silent (by rw [next_unique (rfl : After 0 s s) h])
  | cons i is ih =>
    obtain ⟨hat, hrest⟩ := cons_prefix_drop hnext
    have hlt : s.pc.toNat < 22 := (List.getElem?_eq_some_iff.mp hat).1
    obtain ⟨u, hstep, hafter⟩ := after_succ_iff.mp h
    have hone : Waited (waitsOf i) s u := exec_waited hs (exec_of_step hs hrun hat hstep)
    obtain ⟨v, hv, hu, hend⟩ := step_halts_or_moves hs hrun (Nat.le_of_lt_succ hlt)
    obtain rfl := next_unique hv hstep
    obtain hhalted | ⟨hrun', hmove⟩ := hend
    · obtain rfl := next_unique (after_halted hu hhalted _) hafter
      exact absurd (hhalted.symm.trans hhalt) nofun
    · exact hone.trans (ih hu hrun' (hmove ▸ prefix_at_next_position hlt hrest) hafter)

/-- Settles O17: the delays of the operations of `ITER`, one after another, are seven settle delays and the loop's. -/
theorem iterationWaits : Obligations.IterationWaits := by
  intro s t hs hrun hpc h hhalt
  obtain ⟨events, ht, -⟩ := atMostNineteenMessages s t hs hrun hpc h
  have hwaited : Waited (iter.flatMap waitsOf) s t :=
    run_waited hs hrun (by rw [hpc]; exact List.prefix_rfl) h hhalt
  rw [Waited, ht, waits_append] at hwaited
  have hwaits : waits events = iter.flatMap waitsOf := List.append_cancel_left hwaited
  refine ⟨events, ht, ?_⟩
  rw [count_delay, count_delay, delayMs_eq_sum, hwaits]
  decide

end Sys2Proof.Claims
